-- ==== Sys2Proof/Word.lean ====
section
/-! DEFINITION. The word types of the block (00_scope.md R13). -/

namespace Sys2Proof

/-- A register byte or a byte of main memory. -/
abbrev Byte := BitVec 8

/-- A 24-bit bus or DMA address. Addition and subtraction wrap, which is the `+24` and `-24` of R16. -/
abbrev Addr := BitVec 24

/-- An `int16` sample or DSP word, two's complement (R15). -/
abbrev Sample := BitVec 16

/-- A stereo pair `(L, R)` of samples. -/
abbrev StereoPair := Sample × Sample

/-- The bit pattern of an IEEE 754 binary64 value (R13). -/
abbrev Binary64 := BitVec 64

/-- An offset of the 64-byte register window (30_encoding.md R300). -/
abbrev Offset := BitVec 6

end Sys2Proof
end

