-- ==== Sys2Proof/Config.lean ====
section
/-! DEFINITION. What an implementation fixes (the parameters of 00_scope.md R11) and the free values. -/

namespace Sys2Proof

/-- What a byte write to 0x0D does while the play channel is selected (R11, 40_register_write.md R408). -/
inductive FrameCountLowPlay where
  /-- the default: `Refuse(UnmodelledFrameCountWrite)` -/
  | refuse
  /-- only `raw[0x0D]` is stored -/
  | ignore
  deriving DecidableEq, Repr

/-- The layout table: at which offset each register stands and at which bit each field (00_scope.md R3, the preamble of
30_encoding.md, 93_implementation_defined.md section 2). A field is given by its lowest bit; its width and what its value
means are the rules'. The defaults are `Machine.defaultLayout` (notes/assumptions/3.md). -/
structure Layout where
  /-- where each row of the default map stands (30 R301, R316): entry `n` is the offset of the register, or of the
  unassigned byte, that the default map has at offset `n` -/
  offsets : Vector Offset 64
  /-- fields of register 0x00 (30 R302) -/
  playMfp : Fin 8
  recMfp : Fin 8
  playTimerA : Fin 8
  recTimerA : Fin 8
  /-- fields of register 0x01 (30 R303) -/
  playRun : Fin 8
  playLoop : Fin 8
  recRun : Fin 8
  recLoop : Fin 8
  dmaSelect : Fin 8
  /-- fields of register 0x20, two bits each (30 R305) -/
  playTracks : Fin 7
  trackMonitored : Fin 7
  /-- fields of register 0x21; the rate index has two bits (30 R306) -/
  steIndex : Fin 7
  is16Bit : Fin 8
  mono : Fin 8
  /-- field of register 0x35, four bits (30 R313) -/
  intDivider : Fin 5
  /-- field of register 0x36, two bits (30 R314) -/
  recTracks : Fin 7
  /-- fields of the source selector word; the clock codes have two bits (30 R307) -/
  srcDspTxConnect : Fin 16
  srcDspTxClock : Fin 15
  srcDspTxHandshakeOff : Fin 16
  srcPlayOtherDest : Fin 16
  srcPlayClock : Fin 15
  srcPlayHandshakeOff : Fin 16
  /-- fields of the destination selector word; the source codes have two bits (30 R308) -/
  dstDacSource : Fin 15
  dstDspRxConnect : Fin 16
  dstDspRxSource : Fin 15
  dstDspRxHandshakeOff : Fin 16
  dstRecOtherSource : Fin 16
  dstRecSource : Fin 15
  dstRecHandshakeOff : Fin 16
  /-- source codes of a destination field (30 R311); the code left over is the external input -/
  codePlay : BitVec 2
  codeDspTx : BitVec 2
  codeAdc : BitVec 2
  /-- clock codes of a source field (30 R312); the two codes left over are clocked by neither oscillator -/
  clockA : BitVec 2
  clockB : BitVec 2
  deriving DecidableEq, Repr

/-- The parameters of a model instance (R11, and the layout table of R3). They are data of the state, constant for its
life, so that a claim about every state is a claim for every value of each parameter the spec leaves OPEN
(notes/assumptions/2.md).
`UNASSIGNED_READ` is fixed by R11 (a draw) and needs no field. -/
structure Params where
  /-- `REG_BASE`, the bus address of register offset 0x00 -/
  regBase : Addr
  /-- the layout table (R3, 93_implementation_defined.md section 2) -/
  layout : Layout
  /-- `CYCLE_FREQ`, cycles per second -/
  cycleFreq : Binary64
  /-- `HOST_RATE`, host samples per second -/
  hostRate : Binary64
  /-- `DAC_CAP`, in stereo pairs -/
  dacCap : Nat
  /-- `ADC_CAP`, in stereo pairs -/
  adcCap : Nat
  /-- `RATE_LEGACY[0..3]` -/
  rateLegacy : Vector Binary64 4
  /-- `RATE_A[1..15]`; entry `d` stands at index `d - 1` -/
  rateA : Vector Binary64 15
  /-- `RATE_B[1..15]`; entry `d` stands at index `d - 1` -/
  rateB : Vector Binary64 15
  /-- `ACC_RESET_ON_RECALC` -/
  accResetOnRecalc : Bool
  /-- `FRAME_COUNT_LOW_PLAY` -/
  frameCountLowPlay : FrameCountLowPlay
  deriving DecidableEq, Repr

/-- The byte drawn when `n` values have been drawn before: the answer of an unassigned register byte (41 R529) and of
a memory byte nothing is known of (20 R213). Free: it has no body. -/
opaque Config.drawByte (n : Nat) : Byte

/-- The word the DSP answers `DspReadTx` with when none is known (43 R715). Free: it has no body. -/
opaque Config.drawWord (n : Nat) : Sample

/-- Sign and low payload of the NaN that an invalid binary64 operation gives; IEEE 754 does not fix them. Free. -/
opaque Config.nanBits : BitVec 52

/-- `floor` of an infinity or a NaN, for which 00_scope.md R16 gives no value. Free. -/
opaque Config.floorNonFinite (x : Binary64) : Int

end Sys2Proof
end

