-- ==== Sys2Proof/Machine/Block.lean ====
section
/-! DEFINITION. The block's state (10_state.md R103 to R126), field by field. One value of `Block` is also the image
that CAPTURE returns and RESTORE takes (44_host_bridge.md R830, R831). -/

namespace Sys2Proof.Machine

/-- The stored bytes of the register file (10 R103, 30 R301): one field per assigned offset but the codec status,
which is never stored. -/
structure RawRegs where
  /-- 0x00 -/
  intEnable : Byte
  /-- 0x01 -/
  dmaControl : Byte
  /-- 0x03 -/
  startHi : Byte
  /-- 0x05 -/
  startMid : Byte
  /-- 0x07 -/
  startLo : Byte
  /-- 0x09 -/
  countHi : Byte
  /-- 0x0B -/
  countMid : Byte
  /-- 0x0D -/
  countLo : Byte
  /-- 0x0F -/
  endHi : Byte
  /-- 0x11 -/
  endMid : Byte
  /-- 0x13 -/
  endLo : Byte
  /-- 0x20 -/
  trackControl : Byte
  /-- 0x21 -/
  soundMode : Byte
  /-- 0x30 -/
  srcHi : Byte
  /-- 0x31 -/
  srcLo : Byte
  /-- 0x32 -/
  dstHi : Byte
  /-- 0x33 -/
  dstLo : Byte
  /-- 0x34 -/
  extDivider : Byte
  /-- 0x35 -/
  intDivider : Byte
  /-- 0x36 -/
  recTracks : Byte
  /-- 0x37 -/
  codecInput : Byte
  /-- 0x38 -/
  adcInput : Byte
  /-- 0x39 -/
  gain : Byte
  /-- 0x3A -/
  atten0 : Byte
  /-- 0x3B -/
  atten1 : Byte
  deriving DecidableEq, Repr

/-- The two DMA channels, `PLAY` and `REC` (00 R17). -/
inductive Chan where
  | play
  | record
  deriving DecidableEq, Repr

/-- The two oscillators (42 R600). -/
inductive OscId where
  | a
  | b
  deriving DecidableEq, Repr

/-- One DMA channel (10 R115 to R121). -/
structure DmaChannel where
  frameStart : Addr
  frameEnd : Addr
  frameLen : Addr
  /-- byte offset of the next sample from `frameStart` -/
  frameCounter : Nat
  isRunning : Bool
  loopMode : Bool
  /-- `currentFrameSlot` -/
  slot : Nat
  connectedToCodec : Bool
  connectedToDsp : Bool
  connectedToDma : Bool
  connectedToDspHandshake : Bool
  handshakeFrame : Bool
  timerAInterrupt : Bool
  mfpInterrupt15 : Bool
  deriving DecidableEq, Repr

/-- A DSP port: `dspTx` (10 R122) or `dspRx` (R123). -/
structure DspPort where
  connectedToCodec : Bool
  connectedToDsp : Bool
  connectedToDma : Bool
  connectedToDmaHandshake : Bool
  isTristated : Bool
  isHandshakeMode : Bool
  wordCount : Nat
  deriving DecidableEq, Repr

/-- The channel the next ADC tick reads (10 R124). -/
inductive Side where
  /-- 0 -/
  | left
  /-- 1 -/
  | right
  deriving DecidableEq, Repr

/-- The ADC source (10 R124). -/
structure AdcSource where
  connectedToCodec : Bool
  connectedToDsp : Bool
  connectedToDma : Bool
  side : Side
  deriving DecidableEq, Repr

/-- A codec ring buffer (10 R125, R126): the two sample arrays and the two positions. -/
structure Ring where
  left : List Sample
  right : List Sample
  wr : Nat
  rd : Nat
  deriving DecidableEq, Repr

/-- An oscillator's counters (10 R113). -/
structure Osc where
  /-- cycles per tick -/
  cpt : Binary64
  /-- fractional accumulator -/
  acc : Binary64
  /-- integral consumed-cycles counter -/
  consumed : Int
  deriving DecidableEq, Repr

/-- The whole block state (10 R103 to R126). -/
structure Block where
  raw : RawRegs
  /-- false selects PLAY, true REC (R105) -/
  dmaSelected : Bool
  playTracks : Nat
  recordTracks : Nat
  trackMonitored : BitVec 2
  is16Bit : Bool
  isStereo : Bool
  steFrequencyIndex : BitVec 2
  internalFrequencyDivider : BitVec 4
  dspXmitFreqSel : BitVec 2
  dmaPlayFreqSel : BitVec 2
  isDacMuted : Bool
  latchedStartPlay : Addr
  latchedStartRec : Addr
  latchedEndPlay : Addr
  latchedEndRec : Addr
  oscA : Osc
  oscB : Osc
  epoch : Nat
  playDma : DmaChannel
  recDma : DmaChannel
  dspTx : DspPort
  dspRx : DspPort
  adc : AdcSource
  dac : Ring
  /-- `dac.pending` -/
  dacPending : Binary64
  adcBuf : Ring
  deriving DecidableEq, Repr

end Sys2Proof.Machine
end

