-- ==== Sys2Proof/Machine/Operands.lean ====
section
/-! DEFINITION. Operand forms: bytes and words (00_scope.md R14, R15), the register map and the fields of
every register by the layout table (30_encoding.md R301 to R318), access to a channel's and an oscillator's record, and address assembly. -/

namespace Sys2Proof.Machine

/-! ### Bytes, words and samples -/

/-- `low8(v)` (R15). -/
def low8 (v : Sample) : Byte := v.extractLsb' 0 8

/-- `high8(v)` (R15). -/
def high8 (v : Sample) : Byte := v.extractLsb' 8 8

/-- `hi:lo` (R14): the more significant byte first. -/
def joinBytes (hi lo : Byte) : BitVec 16 := hi ++ lo

/-- `Read16(a) : Read16(a+2)` (30 R332). -/
def joinWords (hi lo : BitVec 16) : BitVec 32 := hi ++ lo

/-- `sext_16(b)` (R15). -/
def sext16 (b : Byte) : Sample := b.signExtend 16

/-- `trunc16(n)` (R15). -/
def trunc16 (n : Int) : Sample := BitVec.ofInt 16 n

/-- The DAC's copy of an 8-bit play sample, `v × 64` (43 R704). -/
def scaleForDac (v : Sample) : Sample := trunc16 (v.toInt * 64)

/-- The average the host drain mixes, `tdiv(int(m) + int(d), 2)`, truncating toward zero (44 R800, R804). -/
def averageSamples (m d : Sample) : Sample := trunc16 ((m.toInt + d.toInt).tdiv 2)

/-! ### Bus addresses -/

/-- `REG_BASE + o` (20 R200). -/
def busAddr (base : Addr) (o : Offset) : Addr := base + o.setWidth 24

/-- An access of `width` bytes at offset `o` lies in the window, and the window there lies in the 24-bit space (30 R334). -/
def fitsWindow (base : Addr) (o : Offset) (width : Nat) : Bool :=
  o.toNat + width ≤ 64 && base.toNat + o.toNat + width ≤ 2 ^ 24

/-- The bus address is odd (30 R331, 60 R903). -/
def isOddAddr (a : Addr) : Bool := a.getLsbD 0

/-! ### Register map -/

/-- The offset at which a row of the default map stands (30 R301, R316). -/
def offsetOf (l : Layout) (row : Offset) : Offset := l.offsets[row.toNat]'row.isLt

/-- The row of the default map that stands at an offset: which register, or which unassigned byte. -/
def rowAt (l : Layout) (o : Offset) : Offset := BitVec.ofNat 6 (l.offsets.toList.idxOf o)

/-! ### Register bit layout -/

/-- Fields of register 0x00 (R302). -/
def playMfpField (l : Layout) (v : Byte) : Bool := v.getLsbD l.playMfp
def recMfpField (l : Layout) (v : Byte) : Bool := v.getLsbD l.recMfp
def playTimerAField (l : Layout) (v : Byte) : Bool := v.getLsbD l.playTimerA
def recTimerAField (l : Layout) (v : Byte) : Bool := v.getLsbD l.recTimerA

/-- Fields of register 0x01 (R303). -/
def playRunField (l : Layout) (v : Byte) : Bool := v.getLsbD l.playRun
def playLoopField (l : Layout) (v : Byte) : Bool := v.getLsbD l.playLoop
def recRunField (l : Layout) (v : Byte) : Bool := v.getLsbD l.recRun
def recLoopField (l : Layout) (v : Byte) : Bool := v.getLsbD l.recLoop
def dmaSelectField (l : Layout) (v : Byte) : Bool := v.getLsbD l.dmaSelect

/-- A register byte with one bit cleared. -/
def clearBit (i : Nat) (v : Byte) : Byte := v &&& ~~~(1#8 <<< i)

/-- A register byte with one bit set. -/
def setBit (i : Nat) (v : Byte) : Byte := v ||| 1#8 <<< i

/-- `raw[0x01][run bit of ch] <- 0` (43 R730, 10 R104). -/
def clearRunField (l : Layout) (ch : Chan) (v : Byte) : Byte :=
  match ch with
  | .play => clearBit l.playRun v
  | .record => clearBit l.recRun v

/-- Fields of register 0x20 (R305). -/
def playTracksField (l : Layout) (v : Byte) : Nat := (v.extractLsb' l.playTracks 2).toNat + 1
def trackMonitoredField (l : Layout) (v : Byte) : BitVec 2 := v.extractLsb' l.trackMonitored 2

/-- Fields of register 0x21 (R306). -/
def steIndexField (l : Layout) (v : Byte) : BitVec 2 := v.extractLsb' l.steIndex 2
def is16BitField (l : Layout) (v : Byte) : Bool := v.getLsbD l.is16Bit
def isStereoField (l : Layout) (v : Byte) : Bool := !v.getLsbD l.mono

/-- Field of register 0x35 (R313). -/
def intDividerField (l : Layout) (v : Byte) : BitVec 4 := v.extractLsb' l.intDivider 4

/-- Field of register 0x36 (R314). -/
def recTracksField (l : Layout) (v : Byte) : Nat := (v.extractLsb' l.recTracks 2).toNat + 1

/-- The source selector word `S` (R307). -/
def srcWord (r : RawRegs) : BitVec 16 := joinBytes r.srcHi r.srcLo

/-- Fields of the source selector word (R307). -/
def srcDspTxConnect (l : Layout) (w : BitVec 16) : Bool := w.getLsbD l.srcDspTxConnect
def srcDspTxClock (l : Layout) (w : BitVec 16) : BitVec 2 := w.extractLsb' l.srcDspTxClock 2
def srcDspTxHandshakeOff (l : Layout) (w : BitVec 16) : Bool := w.getLsbD l.srcDspTxHandshakeOff
def srcPlayOtherDest (l : Layout) (w : BitVec 16) : Bool := w.getLsbD l.srcPlayOtherDest
def srcPlayClock (l : Layout) (w : BitVec 16) : BitVec 2 := w.extractLsb' l.srcPlayClock 2
def srcPlayHandshakeOff (l : Layout) (w : BitVec 16) : Bool := w.getLsbD l.srcPlayHandshakeOff

/-- The destination selector word `D` (R308). -/
def dstWord (r : RawRegs) : BitVec 16 := joinBytes r.dstHi r.dstLo

/-- Fields of the destination selector word (R308). -/
def dstDacSource (l : Layout) (w : BitVec 16) : BitVec 2 := w.extractLsb' l.dstDacSource 2
def dstDspRxConnect (l : Layout) (w : BitVec 16) : Bool := w.getLsbD l.dstDspRxConnect
def dstDspRxSource (l : Layout) (w : BitVec 16) : BitVec 2 := w.extractLsb' l.dstDspRxSource 2
def dstDspRxHandshakeOff (l : Layout) (w : BitVec 16) : Bool := w.getLsbD l.dstDspRxHandshakeOff
def dstRecOtherSource (l : Layout) (w : BitVec 16) : Bool := w.getLsbD l.dstRecOtherSource
def dstRecSource (l : Layout) (w : BitVec 16) : BitVec 2 := w.extractLsb' l.dstRecSource 2
def dstRecHandshakeOff (l : Layout) (w : BitVec 16) : Bool := w.getLsbD l.dstRecHandshakeOff

/-! ### Frame addresses -/

/-- `A24(h, m, l)`: three bytes, the low bit forced to 0 (R317). -/
def assembleAddr (h m l : Byte) : Addr := (h ++ m ++ l) &&& 0xFFFFFE#24

/-- The frame start the three stored bytes spell (40 R436). -/
def rawStart (r : RawRegs) : Addr := assembleAddr r.startHi r.startMid r.startLo

/-- The frame end the three stored bytes spell (40 R437). -/
def rawEnd (r : RawRegs) : Addr := assembleAddr r.endHi r.endMid r.endLo

/-- Bits 23:16, 15:8 and 7:0 of an address (41 R507 to R509). -/
def addrHi (a : Addr) : Byte := a.extractLsb' 16 8
def addrMid (a : Addr) : Byte := a.extractLsb' 8 8
def addrLo (a : Addr) : Byte := a.extractLsb' 0 8

/-- `EA(ch) = frameStart +24 frameCounter` (20 R202). -/
def effectiveAddr (c : DmaChannel) : Addr := c.frameStart + BitVec.ofNat 24 c.frameCounter

/-! ### Records by name -/

/-- `dma[ch]` -/
def dmaOf (ch : Chan) (b : Block) : DmaChannel :=
  match ch with
  | .play => b.playDma
  | .record => b.recDma

/-- `dma[ch] <- f dma[ch]` -/
def mapDma (ch : Chan) (f : DmaChannel → DmaChannel) (b : Block) : Block :=
  match ch with
  | .play => { b with playDma := f b.playDma }
  | .record => { b with recDma := f b.recDma }

/-- `latchedStart[ch]` (10 R112) -/
def latchedStart (ch : Chan) (b : Block) : Addr :=
  match ch with
  | .play => b.latchedStartPlay
  | .record => b.latchedStartRec

/-- `latchedEnd[ch]` (10 R112) -/
def latchedEnd (ch : Chan) (b : Block) : Addr :=
  match ch with
  | .play => b.latchedEndPlay
  | .record => b.latchedEndRec

/-- `osc[X]` -/
def oscOf (x : OscId) (b : Block) : Osc :=
  match x with
  | .a => b.oscA
  | .b => b.oscB

/-- `osc[X] <- o` -/
def setOsc (x : OscId) (o : Osc) (b : Block) : Block :=
  match x with
  | .a => { b with oscA := o }
  | .b => { b with oscB := o }

/-- `sel`: REC if `dmaSelected`, else PLAY (40 R436). -/
def selectedChan (b : Block) : Chan := if b.dmaSelected then .record else .play

/-- The channel whose track count is the modulus of a slot: `playTracks` or `recordTracks` (43 R706, R712). -/
def tracksOf (ch : Chan) (b : Block) : Nat :=
  match ch with
  | .play => b.playTracks
  | .record => b.recordTracks

end Sys2Proof.Machine
end

