-- ==== Sys2Proof/Machine/Flags.lean ====
section
/-! DEFINITION. Every derived flag of the block: the mute predicate, the connectivity, tristate and handshake flags of
the selector decodes, the interrupt-enable flags, the frame-sync bit, and the counter advance. -/

namespace Sys2Proof.Machine

/-- The mute predicate (42_clock_scheduler.md R607). -/
def muted (divider : BitVec 4) (ste : BitVec 2) : Bool :=
  (divider == 0 && ste == 0) ||
    divider == 6 || divider == 8 || divider == 10 || divider == 12 || divider == 13 || divider == 14 || divider == 15

/-- Legacy mode: the divider is 0 (42 R605). -/
def isLegacy (b : Block) : Bool := b.internalFrequencyDivider == 0

/-- The play handshake gate of R419. -/
def playGate (l : Layout) (s d : BitVec 16) : Bool :=
  !srcPlayOtherDest l s && !srcPlayHandshakeOff l s && dstDspRxSource l d == l.codePlay

/-- The DSP-transmit to DMA-record handshake wiring of R419. -/
def recordHandshake (l : Layout) (d : BitVec 16) : Bool :=
  !dstRecOtherSource l d && !dstRecHandshakeOff l d && dstRecSource l d == l.codeDspTx

/-- `DecodeHandshake()` (40_register_write.md R419). -/
def decodeHandshake (l : Layout) (b : Block) : Block :=
  { b with
    playDma := { b.playDma with connectedToDspHandshake := playGate l (srcWord b.raw) (dstWord b.raw) }
    dspTx := { b.dspTx with connectedToDmaHandshake := recordHandshake l (dstWord b.raw) }
    recDma := { b.recDma with connectedToDspHandshake := recordHandshake l (dstWord b.raw) } }

/-- `DecodeSrc()` (40 R415). -/
def decodeSrc (l : Layout) (b : Block) : Block :=
  decodeHandshake l
    { b with
      dspXmitFreqSel := srcDspTxClock l (srcWord b.raw)
      dmaPlayFreqSel := srcPlayClock l (srcWord b.raw)
      dspTx := { b.dspTx with
        isTristated := !srcDspTxConnect l (srcWord b.raw)
        isHandshakeMode := !srcDspTxHandshakeOff l (srcWord b.raw) } }

/-- `DecodeDst()` (40 R417). -/
def decodeDst (l : Layout) (b : Block) : Block :=
  let d := dstWord b.raw
  decodeHandshake l
    { b with
      playDma := { b.playDma with
        connectedToCodec := dstDacSource l d == l.codePlay
        connectedToDsp := dstDspRxSource l d == l.codePlay
        connectedToDma := dstRecSource l d == l.codePlay }
      dspTx := { b.dspTx with
        connectedToCodec := dstDacSource l d == l.codeDspTx
        connectedToDsp := dstDspRxSource l d == l.codeDspTx
        connectedToDma := dstRecSource l d == l.codeDspTx }
      adc := { b.adc with
        connectedToCodec := dstDacSource l d == l.codeAdc
        connectedToDsp := dstDspRxSource l d == l.codeAdc
        connectedToDma := dstRecSource l d == l.codeAdc }
      dspRx := { b.dspRx with
        isTristated := !dstDspRxConnect l d
        isHandshakeMode := !dstDspRxHandshakeOff l d } }

/-- The interrupt-enable flags of `raw[0x00]` (40 R401). -/
def decodeIntEnable (l : Layout) (b : Block) : Block :=
  { b with
    playDma := { b.playDma with
      mfpInterrupt15 := playMfpField l b.raw.intEnable
      timerAInterrupt := playTimerAField l b.raw.intEnable }
    recDma := { b.recDma with
      mfpInterrupt15 := recMfpField l b.raw.intEnable
      timerAInterrupt := recTimerAField l b.raw.intEnable } }

/-- `dmaSelected` and the loop flags of `raw[0x01]` (40 R402); its run bits act by edges and are not here. -/
def decodeDmaControl (l : Layout) (b : Block) : Block :=
  { b with
    dmaSelected := dmaSelectField l b.raw.dmaControl
    playDma := { b.playDma with loopMode := playLoopField l b.raw.dmaControl }
    recDma := { b.recDma with loopMode := recLoopField l b.raw.dmaControl } }

/-- `playTracks` and `trackMonitored` of `raw[0x20]` (40 R412, before its recompute). -/
def decodeTrackControl (l : Layout) (b : Block) : Block :=
  { b with
    playTracks := playTracksField l b.raw.trackControl
    trackMonitored := trackMonitoredField l b.raw.trackControl }

/-- `steFrequencyIndex`, `is16Bit` and `isStereo` of `raw[0x21]` (40 R413, before its recompute). -/
def decodeSoundMode (l : Layout) (b : Block) : Block :=
  { b with
    steFrequencyIndex := steIndexField l b.raw.soundMode
    is16Bit := is16BitField l b.raw.soundMode
    isStereo := isStereoField l b.raw.soundMode }

/-- `internalFrequencyDivider` of `raw[0x35]` (40 R422, before its recompute). -/
def decodeIntDivider (l : Layout) (b : Block) : Block :=
  { b with internalFrequencyDivider := intDividerField l b.raw.intDivider }

/-- `recordTracks` of `raw[0x36]` (40 R423). -/
def decodeRecTracks (l : Layout) (b : Block) : Block :=
  { b with recordTracks := recTracksField l b.raw.recTracks }

/-- The frame-sync bit of a slot or word count: the first word of a frame (43 R705, R717). -/
def frameSync (slot : Nat) : Bool := slot == 0

/-- How far a channel's counter moves for one sample, by the slot before its advance (43 R703). -/
def counterAdvance (is16 stereo : Bool) (slot : Nat) : Nat :=
  if is16 then 2 else if stereo || slot % 2 == 1 then 1 else 0

end Sys2Proof.Machine
end

