-- ==== Sys2Proof/Machine/Binary64.lean ====
section
/-! DEFINITION. IEEE 754 binary64 arithmetic as the spec uses it (00_scope.md R13, R16): `fadd`, `fsub`, `fdiv`,
`f64`, `floor` and the comparisons, on bit patterns. Every finite value is an exact integer number of units of
2^-1074, so each operation computes exactly in integers and rounds once, to nearest, ties to even. -/

namespace Sys2Proof.Machine

/-- The biased exponent field. (Large powers of two are written as shifts in this file, which Lean evaluates.) -/
def f64Exponent (x : Binary64) : Nat := x.toNat / 2 ^ 52 % 2 ^ 11

/-- The fraction field. -/
def f64Fraction (x : Binary64) : Nat := x.toNat % 2 ^ 52

def f64IsFinite (x : Binary64) : Bool := f64Exponent x != 2047

def f64IsNaN (x : Binary64) : Bool := f64Exponent x == 2047 && f64Fraction x != 0

def f64IsInf (x : Binary64) : Bool := f64Exponent x == 2047 && f64Fraction x == 0

/-- The magnitude of a finite value, in units of 2^-1074. -/
def f64Magnitude (x : Binary64) : Nat :=
  if f64Exponent x = 0 then f64Fraction x else (2 ^ 52 + f64Fraction x) <<< (f64Exponent x - 1)

/-- A finite value, in units of 2^-1074. -/
def f64Units (x : Binary64) : Int :=
  if x.msb then -(f64Magnitude x : Int) else (f64Magnitude x : Int)

/-- The quotient `n / d` rounded to an integer, to nearest, ties to even. -/
def roundDiv (n d : Nat) : Nat :=
  let q := n / d
  let r := n % d
  if d < 2 * r ∨ (2 * r = d ∧ q % 2 = 1) then q + 1 else q

/-- The exponent of the leading bit of `n`, for `n` below `2^(2^k)`, by halving. -/
def log2Below (k n : Nat) : Nat :=
  match k with
  | 0 => 0
  | k + 1 => if n < 1 <<< 2 ^ k then log2Below k n else 2 ^ k + log2Below k (n >>> 2 ^ k)

/-- The exponent of the leading bit, `Nat.log2`, in a form that Lean evaluates quickly. -/
def leadingBit (n : Nat) : Nat := if n < 1 <<< 2 ^ 12 then log2Below 12 n else Nat.log2 n

/-- The bits, without the sign, of the binary64 nearest to `n / d` units (`d > 0`): 53 significant bits, and infinity
from 2^1024 on. The exponent field is one more than the shift, and a carry out of the rounding moves into it. -/
def roundMagnitude (n d : Nat) : Nat :=
  let shift := leadingBit (n / d) - 52
  min (2047 * 2 ^ 52) (roundDiv n (d <<< shift) + shift * 2 ^ 52)

/-- A sign and a magnitude of bits put together. -/
def f64Pack (negative : Bool) (magnitude : Nat) : Binary64 :=
  BitVec.ofNat 64 (magnitude + if negative then 2 ^ 63 else 0)

/-- A quiet NaN; its sign and payload are free (notes/assumptions/12.md). -/
def f64NaN : Binary64 :=
  Config.nanBits.extractLsb' 51 1 ++ 0xFFF#12 ++ Config.nanBits.extractLsb' 0 51

/-- An infinity of the given sign. -/
def f64Inf (negative : Bool) : Binary64 := f64Pack negative (2047 * 2 ^ 52)

/-- The value with its sign changed. -/
def f64Neg (x : Binary64) : Binary64 := x ^^^ 0x8000000000000000#64

/-- The binary64 nearest to `n` units of 2^-1074. -/
def f64OfUnits (n : Int) : Binary64 := f64Pack (n < 0) (roundMagnitude n.natAbs 1)

/-- `fadd` of R16. An exact sum of zero is +0, unless both operands are -0. -/
def fadd (x y : Binary64) : Binary64 :=
  if f64IsNaN x ∨ f64IsNaN y then f64NaN
  else if f64IsInf x then (if f64IsInf y ∧ x ≠ y then f64NaN else x)
  else if f64IsInf y then y
  else if f64Units x + f64Units y = 0 then f64Pack (x.msb && y.msb) 0
  else f64OfUnits (f64Units x + f64Units y)

/-- `fsub` of R16. -/
def fsub (x y : Binary64) : Binary64 := fadd x (f64Neg y)

/-- `fdiv` of R16. -/
def fdiv (x y : Binary64) : Binary64 :=
  let negative := x.msb != y.msb
  if f64IsNaN x ∨ f64IsNaN y then f64NaN
  else if f64IsInf x then (if f64IsInf y then f64NaN else f64Inf negative)
  else if f64IsInf y then f64Pack negative 0
  else if f64Magnitude y = 0 then (if f64Magnitude x = 0 then f64NaN else f64Inf negative)
  else f64Pack negative (roundMagnitude (f64Magnitude x <<< 1074) (f64Magnitude y))

/-- `f64(n)` of R16, for a natural `n`. -/
def f64 (n : Nat) : Binary64 := f64OfUnits ((n <<< 1074 : Nat) : Int)

/-- `floor(x)` of R16; free where `x` is not finite. -/
def ffloor (x : Binary64) : Int :=
  if f64IsFinite x then f64Units x / ((1 <<< 1074 : Nat) : Int) else Config.floorNonFinite x

/-- The order key of a value that is not a NaN: -0 and +0 have the same key. -/
def f64Key (x : Binary64) : Int :=
  if x.msb then -((x.toNat : Int) - 2 ^ 63) else (x.toNat : Int)

/-- `x ≤ y`; false where either is a NaN. -/
def f64Le (x y : Binary64) : Bool := !f64IsNaN x && !f64IsNaN y && f64Key x ≤ f64Key y

/-- `x > 0` and finite. -/
def f64IsFinitePositive (x : Binary64) : Bool := f64IsFinite x && 0 < f64Units x

/-- 0.0 -/
abbrev f64Zero : Binary64 := 0#64

/-- 0.5 -/
abbrev f64Half : Binary64 := 0x3FE0000000000000#64

/-- 1.0 -/
abbrev f64One : Binary64 := 0x3FF0000000000000#64

/-- 2.0 -/
abbrev f64Two : Binary64 := 0x4000000000000000#64

end Sys2Proof.Machine
end

