-- ==== Sys2Proof/Machine/Parameters.lean ====
section
/-! DEFINITION. The default and example values of the parameters, and the constraints on them (00_scope.md R11, R12), the
layout table's (30_encoding.md R301 to R314) with them. -/

namespace Sys2Proof.Machine

/-- `RATE_LEGACY`, default (42_clock_scheduler.md R602). -/
def defaultRateLegacy : Vector Binary64 4 := #v[f64 6258, f64 12517, f64 25033, f64 50066]

/-- `RATE_A`, default (42 R603). -/
def defaultRateA : Vector Binary64 15 :=
  #v[f64 49170, f64 32780, f64 24585, f64 19668, f64 16390, f64 14049, f64 12292, f64 10927,
     f64 9834, f64 8940, f64 8195, f64 7565, f64 7024, f64 6556, f64 6146]

/-- `RATE_B`, default (42 R604). -/
def defaultRateB : Vector Binary64 15 :=
  #v[f64 62500, f64 41667, f64 31250, f64 25000, f64 20833, f64 17857, f64 15625, f64 13889,
     f64 12500, f64 11364, f64 10417, f64 9615, f64 8929, f64 8333, f64 7812]

/-- `REG_BASE`, default (R11, decision D1). -/
def defaultRegBase : Addr := 0xFF8900#24

/-- The layout table, default (30_encoding.md R301 to R314). -/
def defaultLayout : Layout where
  offsets :=
    #v[0x00, 0x01, 0x02, 0x03, 0x04, 0x05, 0x06, 0x07, 0x08, 0x09, 0x0A, 0x0B, 0x0C, 0x0D, 0x0E, 0x0F,
       0x10, 0x11, 0x12, 0x13, 0x14, 0x15, 0x16, 0x17, 0x18, 0x19, 0x1A, 0x1B, 0x1C, 0x1D, 0x1E, 0x1F,
       0x20, 0x21, 0x22, 0x23, 0x24, 0x25, 0x26, 0x27, 0x28, 0x29, 0x2A, 0x2B, 0x2C, 0x2D, 0x2E, 0x2F,
       0x30, 0x31, 0x32, 0x33, 0x34, 0x35, 0x36, 0x37, 0x38, 0x39, 0x3A, 0x3B, 0x3C, 0x3D, 0x3E, 0x3F]
  playMfp := 0
  recMfp := 1
  playTimerA := 2
  recTimerA := 3
  playRun := 0
  playLoop := 1
  recRun := 4
  recLoop := 5
  dmaSelect := 7
  playTracks := 0
  trackMonitored := 4
  steIndex := 0
  is16Bit := 6
  mono := 7
  intDivider := 0
  recTracks := 0
  srcDspTxConnect := 7
  srcDspTxClock := 5
  srcDspTxHandshakeOff := 4
  srcPlayOtherDest := 3
  srcPlayClock := 1
  srcPlayHandshakeOff := 0
  dstDacSource := 13
  dstDspRxConnect := 7
  dstDspRxSource := 5
  dstDspRxHandshakeOff := 4
  dstRecOtherSource := 3
  dstRecSource := 1
  dstRecHandshakeOff := 0
  codePlay := 0b00
  codeDspTx := 0b01
  codeAdc := 0b11
  clockA := 0b00
  clockB := 0b10

/-- DESIGN CHOICE, unsafe (notes/assumptions/2.md): an instance with the defaults of R11 and, where R11 says OPEN, the
example values of 95_test_vectors.md section 0. Only `State.reset` and the tests use it. -/
def exampleParams : Params where
  regBase := defaultRegBase
  layout := defaultLayout
  cycleFreq := f64 32000000
  hostRate := f64 44100
  dacCap := 8
  adcCap := 8
  rateLegacy := defaultRateLegacy
  rateA := defaultRateA
  rateB := defaultRateB
  accResetOnRecalc := false
  frameCountLowPlay := .refuse

/-- Every rate of the three tables. -/
def allRates (p : Params) : List Binary64 := p.rateLegacy.toList ++ p.rateA.toList ++ p.rateB.toList

/-- `CYCLE_FREQ / (r × 8) ≥ 1.0` for a finite positive rate `r` (R12), compared exactly. -/
def rateFits (cycleFreq r : Binary64) : Bool :=
  (f64IsInf cycleFreq && !cycleFreq.msb) || (f64IsFinite cycleFreq && 8 * f64Units r ≤ f64Units cycleFreq)

/-- The offsets of a list, as the set bits of a number. -/
def offsetBits (l : List Offset) : Nat :=
  match l with
  | [] => 0
  | o :: rest => 1 <<< o.toNat ||| offsetBits rest

/-- Two fields, each a lowest bit and a width, share no bit. -/
def fieldsApart (f g : Nat × Nat) : Bool := f.1 + f.2 ≤ g.1 || g.1 + g.2 ≤ f.1

/-- No two fields of a register share a bit. -/
def fieldsDisjoint (l : List (Nat × Nat)) : Bool :=
  match l with
  | [] => true
  | f :: rest => rest.all (fieldsApart f) && fieldsDisjoint rest

/-- A layout table has every row of the map at an offset of its own, every field of a register on bits of its own, and
codes that differ (notes/assumptions/3.md). An instance whose table has not is refused. -/
def layoutValid (l : Layout) : Bool :=
  offsetBits l.offsets.toList == 2 ^ 64 - 1
    && fieldsDisjoint [(l.playMfp, 1), (l.recMfp, 1), (l.playTimerA, 1), (l.recTimerA, 1)]
    && fieldsDisjoint [(l.playRun, 1), (l.playLoop, 1), (l.recRun, 1), (l.recLoop, 1), (l.dmaSelect, 1)]
    && fieldsDisjoint [(l.playTracks, 2), (l.trackMonitored, 2)]
    && fieldsDisjoint [(l.steIndex, 2), (l.is16Bit, 1), (l.mono, 1)]
    && fieldsDisjoint [(l.srcDspTxConnect, 1), (l.srcDspTxClock, 2), (l.srcDspTxHandshakeOff, 1),
      (l.srcPlayOtherDest, 1), (l.srcPlayClock, 2), (l.srcPlayHandshakeOff, 1)]
    && fieldsDisjoint [(l.dstDacSource, 2), (l.dstDspRxConnect, 1), (l.dstDspRxSource, 2),
      (l.dstDspRxHandshakeOff, 1), (l.dstRecOtherSource, 1), (l.dstRecSource, 2), (l.dstRecHandshakeOff, 1)]
    && l.codePlay != l.codeDspTx && l.codePlay != l.codeAdc && l.codeDspTx != l.codeAdc && l.clockA != l.clockB

/-- R12: the constraints on the parameters, and that the layout table is one. An instance that breaks one is refused. -/
def paramsValid (p : Params) : Bool :=
  (allRates p).all (fun r => f64IsFinitePositive r && rateFits p.cycleFreq r)
    && f64IsFinitePositive p.hostRate && 1 ≤ p.dacCap && 1 ≤ p.adcCap && layoutValid p.layout

end Sys2Proof.Machine
end

