-- ==== Sys2Proof/Machine/Clock.lean ====
section
/-! DEFINITION. Rates, cycles per tick, the recompute, and one step of an oscillator's accumulator
(42_clock_scheduler.md sections 1 to 3). -/

namespace Sys2Proof.Machine

/-- `RATE_LEGACY[i]`; the field's width bounds the index (R601, 60_exceptions.md R905). -/
def legacyRate (table : Vector Binary64 4) (i : BitVec 2) : Binary64 :=
  table[i.toNat]'i.isLt

/-- `RATE_A[d]` or `RATE_B[d]` for `d` in 1..15. -/
def extendedRate (table : Vector Binary64 15) (d : BitVec 4) : Binary64 :=
  table[d.toNat - 1]'(by have := d.isLt; omega)

/-- `rate(X)` (R601). -/
def rate (p : Params) (b : Block) (x : OscId) : Binary64 :=
  if b.internalFrequencyDivider == 0 then legacyRate p.rateLegacy b.steFrequencyIndex
  else
    match x with
    | .a => extendedRate p.rateA b.internalFrequencyDivider
    | .b => extendedRate p.rateB b.internalFrequencyDivider

/-- `cpt(X)` (R606). -/
def cyclesPerTick (p : Params) (b : Block) (x : OscId) : Binary64 :=
  fdiv (fdiv (fdiv p.cycleFreq (rate p b x)) (f64 b.playTracks)) f64Two

/-- What a recompute does to one oscillator's counters (R608). -/
def recomputeOsc (p : Params) (cpt : Binary64) (o : Osc) : Osc :=
  { o with
    cpt := cpt
    acc := if p.accResetOnRecalc then f64Zero else o.acc
    consumed := if p.accResetOnRecalc then 0 else o.consumed }

/-- `Recompute()` (R608). It schedules nothing and cancels nothing. -/
def recompute (p : Params) (b : Block) : Block :=
  { b with
    oscA := recomputeOsc p (cyclesPerTick p b .a) b.oscA
    oscB := recomputeOsc p (cyclesPerTick p b .b) b.oscB
    isDacMuted := muted b.internalFrequencyDivider b.steFrequencyIndex }

/-- The counters after `ScheduleNext` (R610). -/
def oscNext (o : Osc) : Osc :=
  { o with acc := fadd o.acc o.cpt, consumed := ffloor (fadd o.acc o.cpt) }

/-- The delay `d` that `ScheduleNext` computes (R610). -/
def oscDelay (o : Osc) : Int := ffloor (fadd o.acc o.cpt) - o.consumed

end Sys2Proof.Machine
end

