-- ==== Sys2Proof/Machine/ResetValues.lean ====
section
/-! DEFINITION. The block state a reset leaves (70_reset_and_hazards.md R1000, 10_state.md R129). -/

namespace Sys2Proof.Machine

/-- `raw[o] <- 0x00` for every stored byte (R1000). -/
def clearedRaw : RawRegs where
  intEnable := 0
  dmaControl := 0
  startHi := 0
  startMid := 0
  startLo := 0
  countHi := 0
  countMid := 0
  countLo := 0
  endHi := 0
  endMid := 0
  endLo := 0
  trackControl := 0
  soundMode := 0
  srcHi := 0
  srcLo := 0
  dstHi := 0
  dstLo := 0
  extDivider := 0
  intDivider := 0
  recTracks := 0
  codecInput := 0
  adcInput := 0
  gain := 0
  atten0 := 0
  atten1 := 0

/-- A channel before the selector decodes of R1000 set its connectivity flags. -/
def clearedDma : DmaChannel where
  frameStart := 0
  frameEnd := 0
  frameLen := 0
  frameCounter := 0
  isRunning := false
  loopMode := false
  slot := 0
  connectedToCodec := false
  connectedToDsp := false
  connectedToDma := false
  connectedToDspHandshake := false
  handshakeFrame := false
  timerAInterrupt := false
  mfpInterrupt15 := false

/-- A DSP port before the selector decodes of R1000. -/
def clearedPort : DspPort where
  connectedToCodec := false
  connectedToDsp := false
  connectedToDma := false
  connectedToDmaHandshake := false
  isTristated := false
  isHandshakeMode := false
  wordCount := 0

/-- A ring buffer of `cap` zero pairs. -/
def clearedRing (cap : Nat) : Ring where
  left := List.replicate cap 0
  right := List.replicate cap 0
  wr := 0
  rd := 0

/-- An oscillator with its counters at zero. -/
def clearedOsc : Osc where
  cpt := f64Zero
  acc := f64Zero
  consumed := 0

/-- The literal assignments of R1000, with the new epoch. -/
def clearedBlock (p : Params) (epoch : Nat) : Block where
  raw := clearedRaw
  dmaSelected := false
  playTracks := 1
  recordTracks := 1
  trackMonitored := 0
  is16Bit := false
  isStereo := true
  steFrequencyIndex := 0
  internalFrequencyDivider := 0
  dspXmitFreqSel := 0
  dmaPlayFreqSel := 0
  isDacMuted := false
  latchedStartPlay := 0
  latchedStartRec := 0
  latchedEndPlay := 0
  latchedEndRec := 0
  oscA := clearedOsc
  oscB := clearedOsc
  epoch := epoch
  playDma := clearedDma
  recDma := clearedDma
  dspTx := clearedPort
  dspRx := clearedPort
  adc := { connectedToCodec := false, connectedToDsp := false, connectedToDma := false, side := .left }
  dac := clearedRing p.dacCap
  dacPending := f64Zero
  adcBuf := clearedRing p.adcCap

/-- R1000 up to and including its `Recompute()`. -/
def resetBlockUnscheduled (p : Params) (epoch : Nat) : Block :=
  recompute p (decodeDst p.layout (decodeSrc p.layout (clearedBlock p epoch)))

/-- R1000 to its end: both oscillators have scheduled their first fire. This is the reset column of 10 R129. -/
def resetBlock (p : Params) (epoch : Nat) : Block :=
  let b := resetBlockUnscheduled p epoch
  { b with oscA := oscNext b.oscA, oscB := oscNext b.oscB }

end Sys2Proof.Machine
end

