-- ==== Sys2Proof/Syntax.lean ====
section
/-! DEFINITION. The operations that reach the block: one constructor per row of spec/opcode_table.json
(30_encoding.md R330 to R335), and the entries of the operation stream (10_state.md R101). -/

namespace Sys2Proof

/-- One operation. `wb` and `rb` forms stand for one register or unassigned byte each, named with its default offset as in
the opcode table; where it stands is the layout table's (00_scope.md R3); a `ww`, `wl`, `rw` or `rl`
form carries its offset. `Even` forms stand at an even bus address and `Odd` forms at an odd one. -/
inductive Instr where
  /-- `wb +0x00 (int_enable)`, R401 -/
  | wb00IntEnable (d : Byte)
  /-- `wb +0x01 (dma_control)`, R402 -/
  | wb01DmaControl (d : Byte)
  /-- `wb +0x03 (frame_start_hi)`, R403 -/
  | wb03FrameStartHi (d : Byte)
  /-- `wb +0x05 (frame_start_mid)`, R404 -/
  | wb05FrameStartMid (d : Byte)
  /-- `wb +0x07 (frame_start_lo)`, R405 -/
  | wb07FrameStartLo (d : Byte)
  /-- `wb +0x09 (frame_count_hi)`, R406 -/
  | wb09FrameCountHi (d : Byte)
  /-- `wb +0x0B (frame_count_mid)`, R407 -/
  | wb0BFrameCountMid (d : Byte)
  /-- `wb +0x0D (frame_count_lo)`, R408 -/
  | wb0DFrameCountLo (d : Byte)
  /-- `wb +0x0F (frame_end_hi)`, R409 -/
  | wb0FFrameEndHi (d : Byte)
  /-- `wb +0x11 (frame_end_mid)`, R410 -/
  | wb11FrameEndMid (d : Byte)
  /-- `wb +0x13 (frame_end_lo)`, R411 -/
  | wb13FrameEndLo (d : Byte)
  /-- `wb +0x20 (track_control)`, R412 -/
  | wb20TrackControl (d : Byte)
  /-- `wb +0x21 (sound_mode)`, R413 -/
  | wb21SoundMode (d : Byte)
  /-- `wb +0x30 (src_sel_hi)`, R414 -/
  | wb30SrcSelHi (d : Byte)
  /-- `wb +0x31 (src_sel_lo)`, R416 -/
  | wb31SrcSelLo (d : Byte)
  /-- `wb +0x32 (dst_sel_hi)`, R418 -/
  | wb32DstSelHi (d : Byte)
  /-- `wb +0x33 (dst_sel_lo)`, R420 -/
  | wb33DstSelLo (d : Byte)
  /-- `wb +0x34 (ext_divider)`, R421 -/
  | wb34ExtDivider (d : Byte)
  /-- `wb +0x35 (int_divider)`, R422 -/
  | wb35IntDivider (d : Byte)
  /-- `wb +0x36 (rec_tracks)`, R423 -/
  | wb36RecTracks (d : Byte)
  /-- `wb +0x37 (codec_input)`, R424 -/
  | wb37CodecInput (d : Byte)
  /-- `wb +0x38 (adc_input)`, R425 -/
  | wb38AdcInput (d : Byte)
  /-- `wb +0x39 (gain)`, R426 -/
  | wb39Gain (d : Byte)
  /-- `wb +0x3A (atten_0)`, R427 -/
  | wb3AAtten0 (d : Byte)
  /-- `wb +0x3B (atten_1)`, R428 -/
  | wb3BAtten1 (d : Byte)
  /-- `wb +0x3C (codec_status_hi)`, R429 -/
  | wb3CCodecStatusHi (d : Byte)
  /-- `wb +0x3D (codec_status_lo)`, R430 -/
  | wb3DCodecStatusLo (d : Byte)
  /-- `wb +0x02 (unassigned)`, R431 -/
  | wb02Unassigned (d : Byte)
  /-- `wb +0x04 (unassigned)`, R431 -/
  | wb04Unassigned (d : Byte)
  /-- `wb +0x06 (unassigned)`, R431 -/
  | wb06Unassigned (d : Byte)
  /-- `wb +0x08 (unassigned)`, R431 -/
  | wb08Unassigned (d : Byte)
  /-- `wb +0x0A (unassigned)`, R431 -/
  | wb0AUnassigned (d : Byte)
  /-- `wb +0x0C (unassigned)`, R431 -/
  | wb0CUnassigned (d : Byte)
  /-- `wb +0x0E (unassigned)`, R431 -/
  | wb0EUnassigned (d : Byte)
  /-- `wb +0x10 (unassigned)`, R431 -/
  | wb10Unassigned (d : Byte)
  /-- `wb +0x12 (unassigned)`, R431 -/
  | wb12Unassigned (d : Byte)
  /-- `wb +0x14 (unassigned)`, R431 -/
  | wb14Unassigned (d : Byte)
  /-- `wb +0x15 (unassigned)`, R431 -/
  | wb15Unassigned (d : Byte)
  /-- `wb +0x16 (unassigned)`, R431 -/
  | wb16Unassigned (d : Byte)
  /-- `wb +0x17 (unassigned)`, R431 -/
  | wb17Unassigned (d : Byte)
  /-- `wb +0x18 (unassigned)`, R431 -/
  | wb18Unassigned (d : Byte)
  /-- `wb +0x19 (unassigned)`, R431 -/
  | wb19Unassigned (d : Byte)
  /-- `wb +0x1A (unassigned)`, R431 -/
  | wb1AUnassigned (d : Byte)
  /-- `wb +0x1B (unassigned)`, R431 -/
  | wb1BUnassigned (d : Byte)
  /-- `wb +0x1C (unassigned)`, R431 -/
  | wb1CUnassigned (d : Byte)
  /-- `wb +0x1D (unassigned)`, R431 -/
  | wb1DUnassigned (d : Byte)
  /-- `wb +0x1E (unassigned)`, R431 -/
  | wb1EUnassigned (d : Byte)
  /-- `wb +0x1F (unassigned)`, R431 -/
  | wb1FUnassigned (d : Byte)
  /-- `wb +0x22 (unassigned)`, R431 -/
  | wb22Unassigned (d : Byte)
  /-- `wb +0x23 (unassigned)`, R431 -/
  | wb23Unassigned (d : Byte)
  /-- `wb +0x24 (unassigned)`, R431 -/
  | wb24Unassigned (d : Byte)
  /-- `wb +0x25 (unassigned)`, R431 -/
  | wb25Unassigned (d : Byte)
  /-- `wb +0x26 (unassigned)`, R431 -/
  | wb26Unassigned (d : Byte)
  /-- `wb +0x27 (unassigned)`, R431 -/
  | wb27Unassigned (d : Byte)
  /-- `wb +0x28 (unassigned)`, R431 -/
  | wb28Unassigned (d : Byte)
  /-- `wb +0x29 (unassigned)`, R431 -/
  | wb29Unassigned (d : Byte)
  /-- `wb +0x2A (unassigned)`, R431 -/
  | wb2AUnassigned (d : Byte)
  /-- `wb +0x2B (unassigned)`, R431 -/
  | wb2BUnassigned (d : Byte)
  /-- `wb +0x2C (unassigned)`, R431 -/
  | wb2CUnassigned (d : Byte)
  /-- `wb +0x2D (unassigned)`, R431 -/
  | wb2DUnassigned (d : Byte)
  /-- `wb +0x2E (unassigned)`, R431 -/
  | wb2EUnassigned (d : Byte)
  /-- `wb +0x2F (unassigned)`, R431 -/
  | wb2FUnassigned (d : Byte)
  /-- `wb +0x3E (unassigned)`, R431 -/
  | wb3EUnassigned (d : Byte)
  /-- `wb +0x3F (unassigned)`, R431 -/
  | wb3FUnassigned (d : Byte)
  /-- `rb +0x00 (int_enable)`, R501 -/
  | rb00IntEnable
  /-- `rb +0x01 (dma_control)`, R502 -/
  | rb01DmaControl
  /-- `rb +0x03 (frame_start_hi)`, R503 -/
  | rb03FrameStartHi
  /-- `rb +0x05 (frame_start_mid)`, R504 -/
  | rb05FrameStartMid
  /-- `rb +0x07 (frame_start_lo)`, R506 -/
  | rb07FrameStartLo
  /-- `rb +0x09 (frame_count_hi)`, R507 -/
  | rb09FrameCountHi
  /-- `rb +0x0B (frame_count_mid)`, R508 -/
  | rb0BFrameCountMid
  /-- `rb +0x0D (frame_count_lo)`, R509 -/
  | rb0DFrameCountLo
  /-- `rb +0x0F (frame_end_hi)`, R510 -/
  | rb0FFrameEndHi
  /-- `rb +0x11 (frame_end_mid)`, R511 -/
  | rb11FrameEndMid
  /-- `rb +0x13 (frame_end_lo)`, R512 -/
  | rb13FrameEndLo
  /-- `rb +0x20 (track_control)`, R513 -/
  | rb20TrackControl
  /-- `rb +0x21 (sound_mode)`, R514 -/
  | rb21SoundMode
  /-- `rb +0x30 (src_sel_hi)`, R515 -/
  | rb30SrcSelHi
  /-- `rb +0x31 (src_sel_lo)`, R516 -/
  | rb31SrcSelLo
  /-- `rb +0x32 (dst_sel_hi)`, R517 -/
  | rb32DstSelHi
  /-- `rb +0x33 (dst_sel_lo)`, R518 -/
  | rb33DstSelLo
  /-- `rb +0x34 (ext_divider)`, R519 -/
  | rb34ExtDivider
  /-- `rb +0x35 (int_divider)`, R520 -/
  | rb35IntDivider
  /-- `rb +0x36 (rec_tracks)`, R521 -/
  | rb36RecTracks
  /-- `rb +0x37 (codec_input)`, R522 -/
  | rb37CodecInput
  /-- `rb +0x38 (adc_input)`, R523 -/
  | rb38AdcInput
  /-- `rb +0x39 (gain)`, R524 -/
  | rb39Gain
  /-- `rb +0x3A (atten_0)`, R525 -/
  | rb3AAtten0
  /-- `rb +0x3B (atten_1)`, R526 -/
  | rb3BAtten1
  /-- `rb +0x3C (codec_status_hi)`, R527 -/
  | rb3CCodecStatusHi
  /-- `rb +0x3D (codec_status_lo)`, R528 -/
  | rb3DCodecStatusLo
  /-- `rb +0x02 (unassigned)`, R529 -/
  | rb02Unassigned
  /-- `rb +0x04 (unassigned)`, R529 -/
  | rb04Unassigned
  /-- `rb +0x06 (unassigned)`, R529 -/
  | rb06Unassigned
  /-- `rb +0x08 (unassigned)`, R529 -/
  | rb08Unassigned
  /-- `rb +0x0A (unassigned)`, R529 -/
  | rb0AUnassigned
  /-- `rb +0x0C (unassigned)`, R529 -/
  | rb0CUnassigned
  /-- `rb +0x0E (unassigned)`, R529 -/
  | rb0EUnassigned
  /-- `rb +0x10 (unassigned)`, R529 -/
  | rb10Unassigned
  /-- `rb +0x12 (unassigned)`, R529 -/
  | rb12Unassigned
  /-- `rb +0x14 (unassigned)`, R529 -/
  | rb14Unassigned
  /-- `rb +0x15 (unassigned)`, R529 -/
  | rb15Unassigned
  /-- `rb +0x16 (unassigned)`, R529 -/
  | rb16Unassigned
  /-- `rb +0x17 (unassigned)`, R529 -/
  | rb17Unassigned
  /-- `rb +0x18 (unassigned)`, R529 -/
  | rb18Unassigned
  /-- `rb +0x19 (unassigned)`, R529 -/
  | rb19Unassigned
  /-- `rb +0x1A (unassigned)`, R529 -/
  | rb1AUnassigned
  /-- `rb +0x1B (unassigned)`, R529 -/
  | rb1BUnassigned
  /-- `rb +0x1C (unassigned)`, R529 -/
  | rb1CUnassigned
  /-- `rb +0x1D (unassigned)`, R529 -/
  | rb1DUnassigned
  /-- `rb +0x1E (unassigned)`, R529 -/
  | rb1EUnassigned
  /-- `rb +0x1F (unassigned)`, R529 -/
  | rb1FUnassigned
  /-- `rb +0x22 (unassigned)`, R529 -/
  | rb22Unassigned
  /-- `rb +0x23 (unassigned)`, R529 -/
  | rb23Unassigned
  /-- `rb +0x24 (unassigned)`, R529 -/
  | rb24Unassigned
  /-- `rb +0x25 (unassigned)`, R529 -/
  | rb25Unassigned
  /-- `rb +0x26 (unassigned)`, R529 -/
  | rb26Unassigned
  /-- `rb +0x27 (unassigned)`, R529 -/
  | rb27Unassigned
  /-- `rb +0x28 (unassigned)`, R529 -/
  | rb28Unassigned
  /-- `rb +0x29 (unassigned)`, R529 -/
  | rb29Unassigned
  /-- `rb +0x2A (unassigned)`, R529 -/
  | rb2AUnassigned
  /-- `rb +0x2B (unassigned)`, R529 -/
  | rb2BUnassigned
  /-- `rb +0x2C (unassigned)`, R529 -/
  | rb2CUnassigned
  /-- `rb +0x2D (unassigned)`, R529 -/
  | rb2DUnassigned
  /-- `rb +0x2E (unassigned)`, R529 -/
  | rb2EUnassigned
  /-- `rb +0x2F (unassigned)`, R529 -/
  | rb2FUnassigned
  /-- `rb +0x3E (unassigned)`, R529 -/
  | rb3EUnassigned
  /-- `rb +0x3F (unassigned)`, R529 -/
  | rb3FUnassigned
  /-- `ww +o (o even)`, R331 -/
  | wwEven (o : Offset) (d : BitVec 16)
  /-- `ww +o (o odd, refused Misaligned)`, R903 -/
  | wwOdd (o : Offset) (d : BitVec 16)
  /-- `wl +o (o even)`, R332 -/
  | wlEven (o : Offset) (d : BitVec 32)
  /-- `wl +o (o odd, refused Misaligned)`, R903 -/
  | wlOdd (o : Offset) (d : BitVec 32)
  /-- `rw +o (o even)`, R331 -/
  | rwEven (o : Offset)
  /-- `rw +o (o odd, refused Misaligned)`, R903 -/
  | rwOdd (o : Offset)
  /-- `rl +o (o even)`, R332 -/
  | rlEven (o : Offset)
  /-- `rl +o (o odd, refused Misaligned)`, R903 -/
  | rlOdd (o : Offset)
  /-- `fire A e (FIRE_A)`, R613 -/
  | fireA (e : Nat)
  /-- `fire B e (FIRE_B)`, R614 -/
  | fireB (e : Nat)
  /-- `fso PLAY (DSP_FSO_PLAY)`, R820 -/
  | fsoPlay
  /-- `fso REC (DSP_FSO_REC)`, R821 -/
  | fsoRec
  /-- `drain N mix (HOST_DRAIN)`, R800 (`N` is the length of `mix`) -/
  | drain (mix : List StereoPair)
  /-- `mic count L R (MIC_FEED)`, R810 (`count` is the length; a pair is `(left[j], right[j])`) -/
  | mic (samples : List StereoPair)
  /-- `reset cold (RESET_COLD)`, R1000 -/
  | resetCold
  /-- `reset warm (RESET_WARM)`, R1001 -/
  | resetWarm
  /-- `capture (CAPTURE)`, R830 -/
  | capture
  /-- `restore img (RESTORE)`, R831 -/
  | restore (img : Machine.Block)
  deriving DecidableEq, Repr

/-- The operand that comes with a descriptor (30 R330, R333). -/
inductive Operand where
  /-- a bus read, a DSP frame-sync event, a reset or a capture has none -/
  | none
  /-- data of a byte write -/
  | byte (d : Byte)
  /-- data of a word write -/
  | word (d : BitVec 16)
  /-- data of a long write -/
  | long (d : BitVec 32)
  /-- tag epoch of a fire -/
  | epoch (e : Nat)
  /-- `mix` of a drain, or `left` and `right` of a feed -/
  | pairs (l : List StereoPair)
  /-- image of a restore -/
  | image (b : Machine.Block)
  deriving DecidableEq, Repr

/-- An operation as it stands in the stream: what other agents of the machine did to main memory and to the DSP since
the operation before it (20_memory.md R213, R221; notes/assumptions/4.md, 5.md), then the descriptor and operand. -/
structure Operation where
  /-- bytes other agents have stored in main memory, in order -/
  stores : List (Addr × Byte)
  /-- words the DSP has made ready for `DspReadTx`, in order -/
  dspWords : List Sample
  /-- the operation descriptor (30 R330) -/
  descriptor : BitVec 32
  operand : Operand
  deriving DecidableEq, Repr

end Sys2Proof
end

