-- ==== Sys2Proof/Machine/State.lean ====
section
/-! DEFINITION. The machine's state: the block (10_state.md), its parameters (00_scope.md R11), what is known of the
collaborators that answer it (R18), the stream of operations to come (10 R101), and the record of events and results
(60_exceptions.md R901). With it the reasons a step can stop, and the state after reset. -/

namespace Sys2Proof.Machine

/-- The ports of the DSP's signal lines (00 R18). -/
inductive Port where
  | tx
  | rx
  deriving DecidableEq, Repr

/-- The two interrupt paths (60 R906). -/
inductive IrqPath where
  | gpio
  | timerA
  deriving DecidableEq, Repr

/-- A recorded interaction with a collaborator (00 R18, 44 R840). -/
inductive Event where
  /-- `MemRead(a, 1)` -/
  | memRead (a : Addr)
  /-- `MemWrite(a, 1, v)` -/
  | memWrite (a : Addr) (v : Byte)
  /-- `ScheduleRelative(d, (x, e))` -/
  | scheduleRelative (d : Nat) (x : OscId) (e : Nat)
  /-- `AcknowledgeCurrentEvent()` -/
  | acknowledge
  /-- `PulseIrq(path)` -/
  | pulseIrq (path : IrqPath)
  /-- `DspReadTx()` -/
  | dspReadTx
  /-- `DspWriteRx(v)` -/
  | dspWriteRx (v : Sample)
  /-- `DspFrameSyncIn(port, b)` -/
  | dspFrameSyncIn (port : Port) (b : Bool)
  /-- `DspBitClock(port)` -/
  | dspBitClock (port : Port)
  /-- `Log(DegenerateFrame(ch))`, the one message the spec logs (43 R731) -/
  | logDegenerateFrame (ch : Chan)
  deriving DecidableEq, Repr

/-- The result an operation returns (60 R901): the value read, the updated host buffer, or the captured image. -/
inductive Result where
  | byte (v : Byte)
  | word (v : BitVec 16)
  | long (v : BitVec 32)
  | mix (l : List StereoPair)
  | image (b : Block)
  deriving DecidableEq, Repr

/-- The block has no fault, trap or exception (60 R900, R910): no step ends in one, so there is nothing to name. -/
inductive Fault where
  deriving DecidableEq, Repr

/-- Why an operation is refused (60 R902). A refusal gives no next state, which is safe: nothing is claimed about the
operation (60 R901). -/
inductive Refusal where
  /-- raised by `exec` for an instruction with no meaning yet; safe. No arm raises it. -/
  | notModelled (mnemonic : String)
  /-- raised by the decoder: reserved descriptor (30 R334); safe -/
  | badDescriptor
  /-- raised by the decoder: a bus address outside the window, or an access past its end (30 R334); safe -/
  | outsideWindow
  /-- raised by the decoder: a stream entry whose operand is not the descriptor's (notes/assumptions/11.md); safe -/
  | operandMismatch
  /-- raised by the `Odd` forms: a word or long access at an odd address (60 R903); safe -/
  | misaligned
  /-- raised by a write to 0x0D with PLAY selected and `FRAME_COUNT_LOW_PLAY = refuse` (40 R408); safe -/
  | unmodelledFrameCountWrite
  /-- raised by `scheduleNext`: a delay below 1 (42 R610); safe -/
  | zeroDelay
  /-- raised by MIC_FEED: a count beyond the loop's termination bound (44 R812); safe -/
  | feedTooLong
  /-- raised by RESTORE: an image that breaks an invariant (44 R832); safe -/
  | badSnapshot
  /-- raised by every operation but a reset before the first reset (70 R1005); safe -/
  | notReset
  /-- raised by every operation of an instance whose parameters break a constraint (00 R12); safe -/
  | badParameters
  deriving DecidableEq, Repr

/-- The machine's state. Only `block` is the block's own (10 R127); the other fields are the model's, named in
INVENTORY.md. -/
structure State where
  /-- the parameters, constant for the life of the instance (00 R11) -/
  params : Params
  /-- the block state of 10_state.md -/
  block : Block
  /-- a reset has run since power-on (70 R1005) -/
  hasReset : Bool
  /-- what is known of main memory: addresses strictly rising (notes/assumptions/4.md) -/
  memory : List Host.Cell
  /-- the words the DSP has ready, oldest first (notes/assumptions/5.md) -/
  dspWords : List Sample
  /-- how many free values have been drawn (notes/assumptions/6.md) -/
  draws : Nat
  /-- the operations still to come, first one first (10 R101) -/
  stream : List Operation
  /-- every event recorded so far, oldest first -/
  events : List Event
  /-- every result returned so far, oldest first -/
  results : List Result
  deriving DecidableEq, Repr

/-- The state right after the first reset of an instance with parameters `p` (70 R1000, R1005: `epoch` is 1), nothing
known of the collaborators and no operation waiting. The events are the two the reset records. -/
def State.resetWith (p : Params) : State where
  params := p
  block := resetBlock p 1
  hasReset := true
  memory := []
  dspWords := []
  draws := 0
  stream := []
  events :=
    [.scheduleRelative (oscDelay (resetBlockUnscheduled p 1).oscA).toNat .a 1,
     .scheduleRelative (oscDelay (resetBlockUnscheduled p 1).oscB).toNat .b 1]
  results := []

/-- The machine right after reset, with the example parameters (notes/assumptions/2.md). -/
def State.reset : State := State.resetWith exampleParams

/-- Power-on with parameters `p`: no reset has run, `epoch` is 0, and the rest of the block is whatever `b` says
(70 R1005: it is undefined). -/
def State.powerOn (p : Params) (b : Block) : State where
  params := p
  block := { b with epoch := 0 }
  hasReset := false
  memory := []
  dspWords := []
  draws := 0
  stream := []
  events := []
  results := []

end Sys2Proof.Machine
end

