-- ==== Sys2Proof/Machine/Ops.lean ====
section
/-! DEFINITION. The operations the meanings share: main memory, draws and the collaborators of 00_scope.md R18, updates
of the block, the interrupt pulse (the block's only signal to the machine; it takes no exception, 60_exceptions.md R910),
and the ways an operation ends (60 R901). -/

namespace Sys2Proof.Machine

/-- How an operation ends. -/
abbrev Out := Host.Outcome State Fault Refusal

/-! ### Main memory as a canonical list -/

/-- The byte listed at an address, if one is. -/
def memLookup (m : List Host.Cell) (a : Nat) : Option Byte :=
  match m with
  | [] => none
  | (k, v) :: rest => if a < k then none else if a = k then some v else memLookup rest a

/-- List byte `v` at address `a`, keeping the addresses rising. -/
def memInsert (m : List Host.Cell) (a : Nat) (v : Byte) : List Host.Cell :=
  match m with
  | [] => [(a, v)]
  | (k, w) :: rest =>
    if a < k then (a, v) :: (k, w) :: rest else if a = k then (a, v) :: rest else (k, w) :: memInsert rest a v

/-- The canonical form: every listed address is above `low`, addresses strictly rise, and none is past 24 bits. No
entry can equal what an unlisted address reads as, because that is a draw. -/
def memWfAbove (low : Option Nat) (m : List Host.Cell) : Bool :=
  match m with
  | [] => true
  | (k, _) :: rest =>
    (match low with
      | none => true
      | some l => decide (l < k)) && decide (k < 2 ^ 24) && memWfAbove (some k) rest

/-- The canonical form of the memory list. -/
def memWf (m : List Host.Cell) : Bool := memWfAbove none m

/-- Store a run of bytes, in order. -/
def memStores (m : List Host.Cell) (l : List (Addr × Byte)) : List Host.Cell :=
  match l with
  | [] => m
  | (a, v) :: rest => memStores (memInsert m a.toNat v) rest

/-! ### Recording -/

/-- Record one event (00 R18). -/
def emit (e : Event) (s : State) : State := { s with events := s.events ++ [e] }

/-- Return a result (60 R901). -/
def giveResult (r : Result) (s : State) : State := { s with results := s.results ++ [r] }

/-- One more free value has been drawn. -/
def countDraw (s : State) : State := { s with draws := s.draws + 1 }

/-- Replace the block by a function of it. -/
def updBlock (f : Block → Block) (s : State) : State := { s with block := f s.block }

/-- Replace a channel's record by a function of it. -/
def updDma (ch : Chan) (f : DmaChannel → DmaChannel) (s : State) : State := updBlock (mapDma ch f) s

/-- Replace the register file by a function of it. -/
def updRaw (f : RawRegs → RawRegs) (s : State) : State := updBlock (fun b => { b with raw := f b.raw }) s

/-! ### Memory accesses (00 R18, 20_memory.md R203 to R205, R213) -/

/-- What `MemRead(a, 1)` answers: the byte known at `a`, else a draw. -/
def memByte (a : Addr) (s : State) : Byte := (memLookup s.memory a.toNat).getD (Config.drawByte s.draws)

/-- The state after `MemRead(a, 1)`. -/
def memRead (a : Addr) (s : State) : State :=
  emit (.memRead a) (if (memLookup s.memory a.toNat).isSome then s else countDraw s)

/-- `MemWrite(a, 1, v)`. -/
def memWrite (a : Addr) (v : Byte) (s : State) : State :=
  emit (.memWrite a v) { s with memory := memInsert s.memory a.toNat v }

/-- The 16-bit sample at `a`, the byte at `a` the more significant (20 R203). -/
def sampleWord (a : Addr) (s : State) : Sample := joinBytes (memByte a s) (memByte (a + 1) (memRead a s))

/-- The state after a 16-bit sample read: the byte at `a`, then the byte at `a +24 1` (20 R203). -/
def readSampleWord (a : Addr) (s : State) : State := memRead (a + 1) (memRead a s)

/-- A 16-bit sample write: high byte at `a`, then low byte at `a +24 1` (20 R205). -/
def writeSampleWord (a : Addr) (v : Sample) (s : State) : State :=
  memWrite (a + 1) (low8 v) (memWrite a (high8 v) s)

/-! ### The DSP and the interrupt paths (00 R18, 60 R906) -/

/-- What `DspReadTx()` answers: the next word the DSP has ready, else a draw. -/
def dspWord (s : State) : Sample := s.dspWords.head?.getD (Config.drawWord s.draws)

/-- The state after `DspReadTx()`. -/
def dspReadTx (s : State) : State :=
  emit .dspReadTx (if s.dspWords.isEmpty then countDraw s else { s with dspWords := s.dspWords.tail })

/-- `PulseIrq(path)` if the channel enables it (60 R906, R907). -/
def pulseIrq (enabled : Bool) (path : IrqPath) (s : State) : State := if enabled then emit (.pulseIrq path) s else s

/-! ### How an operation begins and ends -/

/-- An operation that needs a reset first: refused by bad parameters (00 R12) or before a reset (70 R1005). -/
def whenReady (s : State) (k : Out) : Out :=
  if !paramsValid s.params then .refused .badParameters else if !s.hasReset then .refused .notReset else k

/-- A reset, refused only by bad parameters (00 R12, 70 R1005). -/
def whenValid (s : State) (k : Out) : Out := if !paramsValid s.params then .refused .badParameters else k

/-- The end of an operation that may have refused part of the way: then nothing of it remains (60 R901, R902). -/
def finish (r : Except Refusal State) : Out :=
  match r with
  | .ok t => .next t
  | .error e => .refused e

/-- An access at an odd address is refused (60 R903). -/
def refuseMisaligned (s : State) : Out := whenReady s (.refused .misaligned)

/-- Nothing is left in the stream: the block waits, and nothing changes (notes/assumptions/1.md). -/
def idle (s : State) : Out := .next s

end Sys2Proof.Machine
end

