-- ==== Sys2Proof/Machine/HostBridge.lean ====
section
/-! DEFINITION. The host drain with its sample-rate converter and the microphone feed (44_host_bridge.md R800 to R812). -/

namespace Sys2Proof.Machine

/-! ### Host drain -/

/-- `floor(pos + 0.5)`: the nearest index to a position (R803). -/
def nearestIndex (pos : Binary64) : Int := ffloor (fadd pos f64Half)

/-- `(dac.rd + floor(pos + 0.5)) mod DAC_CAP` (R803, R805). -/
def drainIndex (cap rd : Nat) (pos : Binary64) : Nat := (((rd : Int) + nearestIndex pos) % (cap : Int)).toNat

/-- The pair at an index of the ring. An index past the arrays cannot arise (notes/assumptions/15.md). -/
def ringPair (r : Ring) (i : Nat) : StereoPair := (r.left.getD i 0, r.right.getD i 0)

/-- `mix[k]` averaged with a DAC pair (R804). -/
def mixPair (m d : StereoPair) : StereoPair := (averageSamples m.1 d.1, averageSamples m.2 d.2)

/-- What the loop of R800 leaves: the host buffer, the position and the pending count. -/
structure DrainState where
  mix : List StereoPair
  pos : Binary64
  pending : Binary64
  deriving DecidableEq, Repr

/-- The loop of R800 over what is left of the host buffer: it ends with the buffer, or when less than one internal
sample is pending (R802). -/
def drainLoop (cap : Nat) (ratio : Binary64) (dac : Ring) (mix : List StereoPair) (pos pending : Binary64) :
    DrainState :=
  match mix with
  | [] => { mix := [], pos := pos, pending := pending }
  | m :: rest =>
    if f64Le f64One pending then
      let r := drainLoop cap ratio dac rest (fadd pos ratio) (fsub pending ratio)
      { r with mix := mixPair m (ringPair dac (drainIndex cap dac.rd pos)) :: r.mix }
    else { mix := m :: rest, pos := pos, pending := pending }

/-- `ratio = fdiv(rate(A), HOST_RATE)` (R801). -/
def drainRatio (s : State) : Binary64 := fdiv (rate s.params s.block .a) s.params.hostRate

/-- The loop of R800 run on a state. -/
def drainRun (mix : List StereoPair) (s : State) : DrainState :=
  drainLoop s.params.dacCap (drainRatio s) s.block.dac mix f64Zero s.block.dacPending

/-- `HOST_DRAIN(N, mix)` (R800): the read position and pending count move on, and the mixed buffer is returned. -/
def drainState (mix : List StereoPair) (s : State) : State :=
  let r := drainRun mix s
  giveResult (.mix r.mix)
    (updBlock
      (fun b => { b with
        dac := { b.dac with rd := drainIndex s.params.dacCap b.dac.rd r.pos }
        dacPending := r.pending })
      s)

/-- `HOST_DRAIN(N, mix)` (R800) -/
def execDrain (mix : List StereoPair) (s : State) : Out := whenReady s (.next (drainState mix s))

/-! ### Microphone feed -/

/-- `ratioIn = fdiv(HOST_RATE, rate(A))` (R811). -/
def feedRatio (s : State) : Binary64 := fdiv s.params.hostRate (rate s.params s.block .a)

/-- `count ≥ 2^52 × ratioIn`, compared exactly; never so for an infinite ratio (R812). -/
def feedTooLong (count : Nat) (ratio : Binary64) : Bool :=
  f64IsFinite ratio && ((2 ^ 52 : Nat) : Int) * f64Units ratio ≤ (((count <<< 1074 : Nat)) : Int)

/-- One pair written at the write position (R810). -/
def feedPair (cap : Nat) (v : StereoPair) (r : Ring) : Ring :=
  { r with left := r.left.set r.wr v.1, right := r.right.set r.wr v.2, wr := (r.wr + 1) % cap }

/-- More rounds than the loop of R810 can make: below the bound of R812 every round moves the position by more than a
quarter of the ratio (notes/assumptions/16.md). -/
def feedRounds (count : Nat) (ratio : Binary64) : Nat :=
  if f64IsFinite ratio then 4 * (((count + 1) <<< 1074) / f64Magnitude ratio + 1) else count + 1

/-- The loop of R810, for at most `rounds` rounds. -/
def feedLoop (rounds : Nat) (cap : Nat) (ratio : Binary64) (samples : List StereoPair) (r : Ring) (pos : Binary64) :
    Ring :=
  match rounds with
  | 0 => r
  | rounds + 1 =>
    if (samples.length : Int) ≤ nearestIndex pos then r
    else
      feedLoop rounds cap ratio samples (feedPair cap (samples.getD (nearestIndex pos).toNat (0, 0)) r)
        (fadd pos ratio)

/-- `MIC_FEED(count, left, right)` (R810): refused beyond the bound of R812, before any write. -/
def feedState (samples : List StereoPair) (s : State) : Except Refusal State :=
  if feedTooLong samples.length (feedRatio s) then .error .feedTooLong
  else
    .ok (updBlock
      (fun b => { b with
        adcBuf := feedLoop (feedRounds samples.length (feedRatio s)) s.params.adcCap (feedRatio s) samples b.adcBuf
          f64Zero })
      s)

/-- `MIC_FEED(count, left, right)` (R810) -/
def execMic (samples : List StereoPair) (s : State) : Out := whenReady s (finish (feedState samples s))

end Sys2Proof.Machine
end

