-- ==== Sys2Proof/Machine/Transfer.lean ====
section
/-! DEFINITION. The transfer engine (43_transfer_engine.md): end of frame and channel control, the three sinks, and the
three source ticks. These are procedures of the fires, not operations. -/

namespace Sys2Proof.Machine

/-! ### End of frame and channel control -/

/-- `LoadFrame(ch)` (R731), without its log entry. -/
def loadBounds (ch : Chan) (b : Block) : Block :=
  mapDma ch
    (fun c => { c with
      frameStart := latchedStart ch b
      frameEnd := latchedEnd ch b
      frameLen := latchedEnd ch b - latchedStart ch b
      frameCounter := 0 })
    b

/-- The frame just loaded ends at or below its start (R731, R734). -/
def isDegenerate (ch : Chan) (b : Block) : Bool := decide ((latchedEnd ch b).toNat ≤ (latchedStart ch b).toNat)

/-- `LoadFrame(ch)` (R731). -/
def loadFrame (ch : Chan) (s : State) : State :=
  let t := updBlock (loadBounds ch) s
  if isDegenerate ch s.block then emit (.logDegenerateFrame ch) t else t

/-- `StartChannel(ch)` (R732). -/
def startChannel (ch : Chan) (s : State) : State :=
  updDma ch (fun c => { c with slot := 0, isRunning := true }) (loadFrame ch s)

/-- `StopChannel(ch)` (R733). -/
def stopChannel (ch : Chan) (s : State) : State :=
  updDma ch (fun c => { c with isRunning := false, frameCounter := 0 }) s

/-- `RunEdge(ch, run)` (40_register_write.md R402). -/
def runEdge (ch : Chan) (run : Bool) (s : State) : State :=
  if run && !(dmaOf ch s.block).isRunning then startChannel ch s
  else if !run && (dmaOf ch s.block).isRunning then stopChannel ch s
  else s

/-- The auto-stop of `EndOfFrame(ch)` (R730): the channel stops and its run bit in `raw[0x01]` is cleared. -/
def autoStop (ch : Chan) (s : State) : State :=
  updRaw (fun r => { r with dmaControl := clearRunField s.params.layout ch r.dmaControl }) (stopChannel ch s)

/-- `EndOfFrame(ch)` (R730). -/
def endOfFrame (ch : Chan) (s : State) : State :=
  let c := dmaOf ch s.block
  let t := pulseIrq c.timerAInterrupt .timerA (pulseIrq c.mfpInterrupt15 .gpio s)
  if c.loopMode then loadFrame ch t else autoStop ch t

/-- The end of R701 and R710: the slot moves on modulo `tracks × 2`, the counter by `inc`, and a frame that is through
ends. -/
def advanceChannel (ch : Chan) (inc : Nat) (s : State) : State :=
  let t := updDma ch
    (fun c => { c with slot := (c.slot + 1) % (tracksOf ch s.block * 2), frameCounter := c.frameCounter + inc }) s
  if (dmaOf ch t.block).frameLen.toNat ≤ (dmaOf ch t.block).frameCounter then endOfFrame ch t else t

/-! ### Sinks -/

/-- `DmaRecordSink(v)` (R710). -/
def dmaRecordSink (v : Sample) (s : State) : State :=
  let c := s.block.recDma
  let a := effectiveAddr c
  if !c.isRunning then s
  else
    advanceChannel .record (counterAdvance s.block.is16Bit s.block.isStereo c.slot)
      (if s.block.is16Bit then writeSampleWord a v s else memWrite a (low8 v) s)

/-- Put a sample in the left half of the pair at the write position. -/
def ringPutLeft (v : Sample) (r : Ring) : Ring := { r with left := r.left.set r.wr v }

/-- Put a sample in the right half of the pair at the write position and move on, modulo the capacity. -/
def ringPutRight (cap : Nat) (v : Sample) (r : Ring) : Ring :=
  { r with right := r.right.set r.wr v, wr := (r.wr + 1) % cap }

/-- What the DAC stores for a sample: 0 while muted (R726). -/
def dacValue (isMuted : Bool) (v : Sample) : Sample := if isMuted then 0 else v

/-- `DacSink(v, slot)` (R725). -/
def dacSink (v : Sample) (slot : Nat) (s : State) : State :=
  let x := dacValue s.block.isDacMuted v
  let t := s.block.trackMonitored.toNat * 2
  if slot = t then updBlock (fun b => { b with dac := ringPutLeft x b.dac }) s
  else if slot = t + 1 then
    updBlock
      (fun b => { b with
        dac := ringPutRight s.params.dacCap x b.dac
        dacPending := fadd b.dacPending f64One })
      s
  else s

/-- `DspRxSink(v, frame)` (R735). -/
def dspRxSink (v : Sample) (frame : Bool) (s : State) : State :=
  if s.block.dspRx.isTristated then s
  else emit (.dspBitClock .rx) (emit (.dspFrameSyncIn .rx frame) (emit (.dspWriteRx v) s))

/-- The fan-out of one sample: record, then DAC, then DSP-receive (R700, R705). The DAC may get another value and slot
than the rest. -/
def fanOut (toDma toCodec toDsp : Bool) (v vdac : Sample) (slot : Nat) (frame : Bool) (s : State) : State :=
  let s1 := if toDma then dmaRecordSink v s else s
  let s2 := if toCodec then dacSink vdac slot s1 else s1
  if toDsp then dspRxSink v frame s2 else s2

/-! ### Source ticks -/

/-- The sample a play tick reads at `a` (R701 step 3): 16 bits, or a byte sign-extended. -/
def playSample (a : Addr) (s : State) : Sample :=
  if s.block.is16Bit then sampleWord a s else sext16 (memByte a s)

/-- The state after a play tick's read at `a`. -/
def readPlaySample (a : Addr) (s : State) : State :=
  if s.block.is16Bit then readSampleWord a s else memRead a s

/-- What the DAC gets of a play sample: an 8-bit sample times 64 (R704). -/
def playDacValue (is16 : Bool) (v : Sample) : Sample := if is16 then v else scaleForDac v

/-- `DmaPlayTick()` (R701) from step 3 on: one sample is read, fanned out, and the channel moves on. -/
def dmaPlayMove (s : State) : State :=
  let c := s.block.playDma
  let a := effectiveAddr c
  let v := playSample a s
  advanceChannel .play (counterAdvance s.block.is16Bit s.block.isStereo c.slot)
    (fanOut c.connectedToDma c.connectedToCodec c.connectedToDsp v (playDacValue s.block.is16Bit v) c.slot
      (frameSync c.slot) (readPlaySample a s))

/-- `DmaPlayTick()` (R701, R702). -/
def dmaPlayTick (s : State) : State :=
  let c := s.block.playDma
  if !c.isRunning then s
  else if !c.connectedToDspHandshake then dmaPlayMove s
  else if !c.handshakeFrame then s
  else dmaPlayMove (updDma .play (fun c => { c with handshakeFrame := false }) s)

/-- `DspXmitHandshake()` (R718). -/
def dspXmitHandshake (s : State) : State :=
  if !s.block.recDma.handshakeFrame then s
  else
    let t := updDma .record (fun c => { c with handshakeFrame := false }) s
    dmaRecordSink (dspWord t) (dspReadTx t)

/-- `dspTx.wordCount <- (w + 1) mod (playTracks × 2)` (R715). -/
def advanceWordCount (b : Block) : Block :=
  { b with dspTx := { b.dspTx with wordCount := (b.dspTx.wordCount + 1) % (b.playTracks * 2) } }

/-- `DspXmitTick()` (R715 to R717). -/
def dspXmitTick (s : State) : State :=
  let p := s.block.dspTx
  if p.isTristated then s
  else if p.connectedToDmaHandshake then dspXmitHandshake s
  else
    let t := emit (.dspBitClock .tx) (emit (.dspFrameSyncIn .tx (frameSync p.wordCount)) s)
    let v := dspWord t
    updBlock advanceWordCount
      (fanOut p.connectedToDma p.connectedToCodec p.connectedToDsp v v p.wordCount (frameSync p.wordCount)
        (dspReadTx t))

/-- The sample an ADC tick reads, by side, at the read position (R720). A position past the array cannot arise
(notes/assumptions/15.md). -/
def adcSample (b : Block) : Sample :=
  match b.adc.side with
  | .left => b.adcBuf.left.getD b.adcBuf.rd 0
  | .right => b.adcBuf.right.getD b.adcBuf.rd 0

/-- `adc.side` as the number the DAC compares (R720). -/
def sideSlot (side : Side) : Nat :=
  match side with
  | .left => 0
  | .right => 1

/-- `adc.side <- 1 - s` (R720). -/
def otherSide (side : Side) : Side :=
  match side with
  | .left => .right
  | .right => .left

/-- `adcBuf.rd` moves on after the right half only (R720, R721). -/
def advanceAdcRead (cap : Nat) (b : Block) : Block :=
  match b.adc.side with
  | .left => b
  | .right => { b with adcBuf := { b.adcBuf with rd := (b.adcBuf.rd + 1) % cap } }

/-- `AdcTick()` (R720, R721). -/
def adcTick (s : State) : State :=
  let c := s.block.adc
  let v := adcSample s.block
  updBlock (fun b => { b with adc := { b.adc with side := otherSide c.side } })
    (fanOut c.connectedToDma c.connectedToCodec c.connectedToDsp v v (sideSlot c.side) (frameSync (sideSlot c.side))
      (updBlock (advanceAdcRead s.params.adcCap) s))

end Sys2Proof.Machine
end

