-- ==== Sys2Proof/Machine/Fire.lean ====
section
/-! DEFINITION. Scheduling and the fire events (42_clock_scheduler.md R610, R613 to R617), and the DSP frame-sync-out
events (44_host_bridge.md R820, R821). -/

namespace Sys2Proof.Machine

/-- `ScheduleNext(X)` (R610): the delay to the next fire, at least one cycle, or a refusal. -/
def scheduleNext (x : OscId) (s : State) : Except Refusal State :=
  let o := oscOf x s.block
  if oscDelay o < 1 then .error .zeroDelay
  else
    .ok (emit (.scheduleRelative (oscDelay o).toNat x s.block.epoch) (updBlock (setOsc x (oscNext o)) s))

/-- The sub-flows of a current `FIRE_A` (R613): everything in legacy mode, else what oscillator A clocks; the ADC
always. -/
def fireASubflows (s : State) : State :=
  if isLegacy s.block then adcTick (dmaPlayTick (dspXmitTick s))
  else
    let s1 := if s.block.dspXmitFreqSel = s.params.layout.clockA then dspXmitTick s else s
    let s2 := if s.block.dmaPlayFreqSel = s.params.layout.clockA then dmaPlayTick s1 else s1
    adcTick s2

/-- The sub-flows of a current `FIRE_B` (R614): nothing in legacy mode, else what oscillator B clocks. -/
def fireBSubflows (s : State) : State :=
  if isLegacy s.block then s
  else
    let s1 := if s.block.dspXmitFreqSel = s.params.layout.clockB then dspXmitTick s else s
    if s.block.dmaPlayFreqSel = s.params.layout.clockB then dmaPlayTick s1 else s1

/-- A fire of oscillator `x` with tag epoch `e`: acknowledged; a stale one does nothing more (R615). -/
def fire (x : OscId) (subflows : State → State) (e : Nat) (s : State) : Except Refusal State :=
  let t := emit .acknowledge s
  if e = s.block.epoch then scheduleNext x (subflows t) else .ok t

/-- `FIRE_A(e)` (R613) -/
def execFireA (e : Nat) (s : State) : Out := whenReady s (finish (fire .a fireASubflows e s))

/-- `FIRE_B(e)` (R614) -/
def execFireB (e : Nat) (s : State) : Out := whenReady s (finish (fire .b fireBSubflows e s))

/-- `dma[ch].handshakeFrame <- true` (44 R820, R821). -/
def setHandshakeFrame (ch : Chan) (s : State) : State := updDma ch (fun c => { c with handshakeFrame := true }) s

/-- `DSP_FSO_PLAY` (44 R820) -/
def execFsoPlay (s : State) : Out := whenReady s (.next (setHandshakeFrame .play s))

/-- `DSP_FSO_REC` (44 R821) -/
def execFsoRec (s : State) : Out := whenReady s (.next (setHandshakeFrame .record s))

end Sys2Proof.Machine
end

