-- ==== Sys2Proof/Machine/Reset.lean ====
section
/-! DEFINITION. Reset (70_reset_and_hazards.md R1000 to R1005). -/

namespace Sys2Proof.Machine

/-- `resetAll` (R1000): the block is set anew with the next epoch, and both oscillators schedule their first fire.
Nothing outside the block is touched (R1003). -/
def resetState (s : State) : Except Refusal State :=
  (scheduleNext .a
    { s with block := resetBlockUnscheduled s.params (s.block.epoch + 1), hasReset := true }).bind (scheduleNext .b)

/-- `RESET_COLD` (R1000) -/
def execResetCold (s : State) : Out := whenValid s (finish (resetState s))

/-- `RESET_WARM` (R1001): exactly the effect of R1000. -/
def execResetWarm (s : State) : Out := whenValid s (finish (resetState s))

end Sys2Proof.Machine
end

