-- ==== Sys2Proof/Machine/Snapshot.lean ====
section
/-! DEFINITION. Snapshot capture and restore (44_host_bridge.md R830 to R832). -/

namespace Sys2Proof.Machine

/-- "each field in its range" (R832, 10_state.md): the ranges the fields' types do not already give. -/
def rangesOk (p : Params) (b : Block) : Bool :=
  (1 ≤ b.playTracks && b.playTracks ≤ 4) && (1 ≤ b.recordTracks && b.recordTracks ≤ 4)
    && b.playDma.slot < 8 && b.recDma.slot < 8 && b.dspTx.wordCount < 8 && b.dspRx.wordCount < 8
    && b.dac.left.length == p.dacCap && b.dac.right.length == p.dacCap
    && b.adcBuf.left.length == p.adcCap && b.adcBuf.right.length == p.adcCap

/-- The ring positions are below the capacities (R832). -/
def positionsOk (p : Params) (b : Block) : Bool :=
  b.dac.wr < p.dacCap && b.dac.rd < p.dacCap && b.adcBuf.wr < p.adcCap && b.adcBuf.rd < p.adcCap

/-- `latchedStart` and `latchedEnd` are even (R832, 10 R112). -/
def latchesEven (b : Block) : Bool :=
  !b.latchedStartPlay.getLsbD 0 && !b.latchedStartRec.getLsbD 0 && !b.latchedEndPlay.getLsbD 0
    && !b.latchedEndRec.getLsbD 0

/-- `isRunning` equals its run bit (R832, 10 R116). -/
def runBitsOk (l : Layout) (b : Block) : Bool :=
  b.playDma.isRunning == playRunField l b.raw.dmaControl && b.recDma.isRunning == recRunField l b.raw.dmaControl

/-- Every decoded field set anew from `raw` (40_register_write.md R401 to R423). -/
def redecode (l : Layout) (b : Block) : Block :=
  decodeRecTracks l (decodeIntDivider l (decodeSoundMode l (decodeTrackControl l (decodeDmaControl l (decodeIntEnable l
    (decodeDst l (decodeSrc l b)))))))

/-- Each decoded field equals the decode of `raw` (R832). -/
def decodedOk (l : Layout) (b : Block) : Bool := redecode l b == b

/-- `cpt` equals the formula, `isDacMuted` the mute predicate, and `consumed = floor(acc)` (R832). -/
def clockOk (p : Params) (b : Block) : Bool :=
  b.oscA.cpt == cyclesPerTick p b .a && b.oscB.cpt == cyclesPerTick p b .b
    && b.isDacMuted == muted b.internalFrequencyDivider b.steFrequencyIndex
    && b.oscA.consumed == ffloor b.oscA.acc && b.oscB.consumed == ffloor b.oscB.acc

/-- The active bounds are even (20_memory.md R207), `frameLen = frameEnd -24 frameStart` (R832), and while running
`frameCounter < frameLen + 2` (10 R115). -/
def frameOk (c : DmaChannel) : Bool :=
  !c.frameStart.getLsbD 0 && !c.frameEnd.getLsbD 0 && c.frameLen == c.frameEnd - c.frameStart
    && (!c.isRunning || c.frameCounter < c.frameLen.toNat + 2)

/-- The flags 10 R119 and R123 say are always false. -/
def unusedFlagsOk (b : Block) : Bool :=
  !b.recDma.connectedToCodec && !b.recDma.connectedToDsp && !b.recDma.connectedToDma
    && !b.dspRx.connectedToCodec && !b.dspRx.connectedToDsp && !b.dspRx.connectedToDma
    && !b.dspRx.connectedToDmaHandshake

/-- R832: an image satisfies every invariant of 10_state.md (notes/assumptions/17.md). -/
def imageOk (p : Params) (b : Block) : Bool :=
  rangesOk p b && positionsOk p b && latchesEven b && runBitsOk p.layout b && decodedOk p.layout b && clockOk p b
    && frameOk b.playDma && frameOk b.recDma && unusedFlagsOk b

/-- `CAPTURE` (R830): the image is the block state as it is. -/
def captureState (s : State) : State := giveResult (.image s.block) s

/-- `RESTORE(img)` (R831, R832): the whole block state is replaced, or the image is refused. -/
def restoreState (img : Block) (s : State) : Except Refusal State :=
  if imageOk s.params img then .ok { s with block := img } else .error .badSnapshot

/-- `CAPTURE` (R830) -/
def execCapture (s : State) : Out := whenReady s (.next (captureState s))

/-- `RESTORE(img)` (R831) -/
def execRestore (img : Block) (s : State) : Out := whenReady s (finish (restoreState img s))

end Sys2Proof.Machine
end

