-- ==== Sys2Proof/Machine/RegisterRead.lean ====
section
/-! DEFINITION. Register reads (41_register_read.md): the value of the byte at any offset, and the meaning of every `rb`
form. No read changes the block (R500). -/

namespace Sys2Proof.Machine

/-- `LiveAddress()` (R505). -/
def liveAddress (b : Block) : Addr :=
  if (dmaOf (selectedChan b) b).isRunning then effectiveAddr (dmaOf (selectedChan b) b)
  else latchedStart (selectedChan b) b

/-- The codec status, always 0x00 (R527, R528). -/
def codecStatus : Byte := 0x00

/-- The byte an unassigned offset answers: a draw (R529). -/
def drawnByte (s : State) : Byte := Config.drawByte s.draws

/-- The value of the register that the default map has at `row`; unassigned bytes are draws. -/
def rowByte (row : Offset) (s : State) : Byte :=
  match row.toNat with
  | 0x00 => s.block.raw.intEnable
  | 0x01 => s.block.raw.dmaControl
  | 0x03 => s.block.raw.startHi
  | 0x05 => s.block.raw.startMid
  | 0x07 => s.block.raw.startLo
  | 0x09 => addrHi (liveAddress s.block)
  | 0x0B => addrMid (liveAddress s.block)
  | 0x0D => addrLo (liveAddress s.block)
  | 0x0F => s.block.raw.endHi
  | 0x11 => s.block.raw.endMid
  | 0x13 => s.block.raw.endLo
  | 0x20 => s.block.raw.trackControl
  | 0x21 => s.block.raw.soundMode
  | 0x30 => s.block.raw.srcHi
  | 0x31 => s.block.raw.srcLo
  | 0x32 => s.block.raw.dstHi
  | 0x33 => s.block.raw.dstLo
  | 0x34 => s.block.raw.extDivider
  | 0x35 => s.block.raw.intDivider
  | 0x36 => s.block.raw.recTracks
  | 0x37 => s.block.raw.codecInput
  | 0x38 => s.block.raw.adcInput
  | 0x39 => s.block.raw.gain
  | 0x3A => s.block.raw.atten0
  | 0x3B => s.block.raw.atten1
  | 0x3C => codecStatus
  | 0x3D => codecStatus
  | _ => drawnByte s

/-- The assigned rows (30_encoding.md R301, R316). -/
def isAssigned (row : Offset) : Bool :=
  row.toNat ∈
    [0x00, 0x01, 0x03, 0x05, 0x07, 0x09, 0x0B, 0x0D, 0x0F, 0x11, 0x13, 0x20, 0x21]
      ++ [0x30, 0x31, 0x32, 0x33, 0x34, 0x35, 0x36, 0x37, 0x38, 0x39, 0x3A, 0x3B, 0x3C, 0x3D]

/-- The state after a byte read: unchanged, but for the count of draws of an unassigned byte. -/
def rowRead (row : Offset) (s : State) : State := if isAssigned row then s else countDraw s

/-- The value of `Read8(o)` (R500): that of what the layout table has at offset `o`. -/
def regByte (o : Offset) (s : State) : Byte := rowByte (rowAt s.params.layout o) s

/-- The state after `Read8(o)`. -/
def regRead (o : Offset) (s : State) : State := rowRead (rowAt s.params.layout o) s

/-- A byte read that returns `v` (R500). -/
def returnByte (v : Byte) (s : State) : Out := whenReady s (.next (giveResult (.byte v) s))

/-- A byte read of an unassigned offset (R529). -/
def returnDraw (s : State) : Out := whenReady s (.next (giveResult (.byte (drawnByte s)) (countDraw s)))

/-! ### The meaning of each form -/

/-- `rb +0x00 (int_enable)` (R501) -/
def execRb00IntEnable (s : State) : Out := returnByte s.block.raw.intEnable s

/-- `rb +0x01 (dma_control)` (R502) -/
def execRb01DmaControl (s : State) : Out := returnByte s.block.raw.dmaControl s

/-- `rb +0x03 (frame_start_hi)` (R503) -/
def execRb03FrameStartHi (s : State) : Out := returnByte s.block.raw.startHi s

/-- `rb +0x05 (frame_start_mid)` (R504) -/
def execRb05FrameStartMid (s : State) : Out := returnByte s.block.raw.startMid s

/-- `rb +0x07 (frame_start_lo)` (R506) -/
def execRb07FrameStartLo (s : State) : Out := returnByte s.block.raw.startLo s

/-- `rb +0x09 (frame_count_hi)` (R507) -/
def execRb09FrameCountHi (s : State) : Out := returnByte (addrHi (liveAddress s.block)) s

/-- `rb +0x0B (frame_count_mid)` (R508) -/
def execRb0BFrameCountMid (s : State) : Out := returnByte (addrMid (liveAddress s.block)) s

/-- `rb +0x0D (frame_count_lo)` (R509) -/
def execRb0DFrameCountLo (s : State) : Out := returnByte (addrLo (liveAddress s.block)) s

/-- `rb +0x0F (frame_end_hi)` (R510) -/
def execRb0FFrameEndHi (s : State) : Out := returnByte s.block.raw.endHi s

/-- `rb +0x11 (frame_end_mid)` (R511) -/
def execRb11FrameEndMid (s : State) : Out := returnByte s.block.raw.endMid s

/-- `rb +0x13 (frame_end_lo)` (R512) -/
def execRb13FrameEndLo (s : State) : Out := returnByte s.block.raw.endLo s

/-- `rb +0x20 (track_control)` (R513) -/
def execRb20TrackControl (s : State) : Out := returnByte s.block.raw.trackControl s

/-- `rb +0x21 (sound_mode)` (R514) -/
def execRb21SoundMode (s : State) : Out := returnByte s.block.raw.soundMode s

/-- `rb +0x30 (src_sel_hi)` (R515) -/
def execRb30SrcSelHi (s : State) : Out := returnByte s.block.raw.srcHi s

/-- `rb +0x31 (src_sel_lo)` (R516) -/
def execRb31SrcSelLo (s : State) : Out := returnByte s.block.raw.srcLo s

/-- `rb +0x32 (dst_sel_hi)` (R517) -/
def execRb32DstSelHi (s : State) : Out := returnByte s.block.raw.dstHi s

/-- `rb +0x33 (dst_sel_lo)` (R518) -/
def execRb33DstSelLo (s : State) : Out := returnByte s.block.raw.dstLo s

/-- `rb +0x34 (ext_divider)` (R519) -/
def execRb34ExtDivider (s : State) : Out := returnByte s.block.raw.extDivider s

/-- `rb +0x35 (int_divider)` (R520) -/
def execRb35IntDivider (s : State) : Out := returnByte s.block.raw.intDivider s

/-- `rb +0x36 (rec_tracks)` (R521) -/
def execRb36RecTracks (s : State) : Out := returnByte s.block.raw.recTracks s

/-- `rb +0x37 (codec_input)` (R522) -/
def execRb37CodecInput (s : State) : Out := returnByte s.block.raw.codecInput s

/-- `rb +0x38 (adc_input)` (R523) -/
def execRb38AdcInput (s : State) : Out := returnByte s.block.raw.adcInput s

/-- `rb +0x39 (gain)` (R524) -/
def execRb39Gain (s : State) : Out := returnByte s.block.raw.gain s

/-- `rb +0x3A (atten_0)` (R525) -/
def execRb3AAtten0 (s : State) : Out := returnByte s.block.raw.atten0 s

/-- `rb +0x3B (atten_1)` (R526) -/
def execRb3BAtten1 (s : State) : Out := returnByte s.block.raw.atten1 s

/-- `rb +0x3C (codec_status_hi)` (R527) -/
def execRb3CCodecStatusHi (s : State) : Out := returnByte codecStatus s

/-- `rb +0x3D (codec_status_lo)` (R528) -/
def execRb3DCodecStatusLo (s : State) : Out := returnByte codecStatus s

/-- `rb +0x02 (unassigned)` (R529) -/
def execRb02Unassigned (s : State) : Out := returnDraw s

/-- `rb +0x04 (unassigned)` (R529) -/
def execRb04Unassigned (s : State) : Out := returnDraw s

/-- `rb +0x06 (unassigned)` (R529) -/
def execRb06Unassigned (s : State) : Out := returnDraw s

/-- `rb +0x08 (unassigned)` (R529) -/
def execRb08Unassigned (s : State) : Out := returnDraw s

/-- `rb +0x0A (unassigned)` (R529) -/
def execRb0AUnassigned (s : State) : Out := returnDraw s

/-- `rb +0x0C (unassigned)` (R529) -/
def execRb0CUnassigned (s : State) : Out := returnDraw s

/-- `rb +0x0E (unassigned)` (R529) -/
def execRb0EUnassigned (s : State) : Out := returnDraw s

/-- `rb +0x10 (unassigned)` (R529) -/
def execRb10Unassigned (s : State) : Out := returnDraw s

/-- `rb +0x12 (unassigned)` (R529) -/
def execRb12Unassigned (s : State) : Out := returnDraw s

/-- `rb +0x14 (unassigned)` (R529) -/
def execRb14Unassigned (s : State) : Out := returnDraw s

/-- `rb +0x15 (unassigned)` (R529) -/
def execRb15Unassigned (s : State) : Out := returnDraw s

/-- `rb +0x16 (unassigned)` (R529) -/
def execRb16Unassigned (s : State) : Out := returnDraw s

/-- `rb +0x17 (unassigned)` (R529) -/
def execRb17Unassigned (s : State) : Out := returnDraw s

/-- `rb +0x18 (unassigned)` (R529) -/
def execRb18Unassigned (s : State) : Out := returnDraw s

/-- `rb +0x19 (unassigned)` (R529) -/
def execRb19Unassigned (s : State) : Out := returnDraw s

/-- `rb +0x1A (unassigned)` (R529) -/
def execRb1AUnassigned (s : State) : Out := returnDraw s

/-- `rb +0x1B (unassigned)` (R529) -/
def execRb1BUnassigned (s : State) : Out := returnDraw s

/-- `rb +0x1C (unassigned)` (R529) -/
def execRb1CUnassigned (s : State) : Out := returnDraw s

/-- `rb +0x1D (unassigned)` (R529) -/
def execRb1DUnassigned (s : State) : Out := returnDraw s

/-- `rb +0x1E (unassigned)` (R529) -/
def execRb1EUnassigned (s : State) : Out := returnDraw s

/-- `rb +0x1F (unassigned)` (R529) -/
def execRb1FUnassigned (s : State) : Out := returnDraw s

/-- `rb +0x22 (unassigned)` (R529) -/
def execRb22Unassigned (s : State) : Out := returnDraw s

/-- `rb +0x23 (unassigned)` (R529) -/
def execRb23Unassigned (s : State) : Out := returnDraw s

/-- `rb +0x24 (unassigned)` (R529) -/
def execRb24Unassigned (s : State) : Out := returnDraw s

/-- `rb +0x25 (unassigned)` (R529) -/
def execRb25Unassigned (s : State) : Out := returnDraw s

/-- `rb +0x26 (unassigned)` (R529) -/
def execRb26Unassigned (s : State) : Out := returnDraw s

/-- `rb +0x27 (unassigned)` (R529) -/
def execRb27Unassigned (s : State) : Out := returnDraw s

/-- `rb +0x28 (unassigned)` (R529) -/
def execRb28Unassigned (s : State) : Out := returnDraw s

/-- `rb +0x29 (unassigned)` (R529) -/
def execRb29Unassigned (s : State) : Out := returnDraw s

/-- `rb +0x2A (unassigned)` (R529) -/
def execRb2AUnassigned (s : State) : Out := returnDraw s

/-- `rb +0x2B (unassigned)` (R529) -/
def execRb2BUnassigned (s : State) : Out := returnDraw s

/-- `rb +0x2C (unassigned)` (R529) -/
def execRb2CUnassigned (s : State) : Out := returnDraw s

/-- `rb +0x2D (unassigned)` (R529) -/
def execRb2DUnassigned (s : State) : Out := returnDraw s

/-- `rb +0x2E (unassigned)` (R529) -/
def execRb2EUnassigned (s : State) : Out := returnDraw s

/-- `rb +0x2F (unassigned)` (R529) -/
def execRb2FUnassigned (s : State) : Out := returnDraw s

/-- `rb +0x3E (unassigned)` (R529) -/
def execRb3EUnassigned (s : State) : Out := returnDraw s

/-- `rb +0x3F (unassigned)` (R529) -/
def execRb3FUnassigned (s : State) : Out := returnDraw s

end Sys2Proof.Machine
end

