-- ==== Sys2Proof/Machine/RegisterWrite.lean ====
section
/-! DEFINITION. Register writes (40_register_write.md): one store-and-handle procedure per register, the byte
write of any offset, and the meaning of every `wb` form. -/

namespace Sys2Proof.Machine

/-! ### Address latches -/

/-- `LatchStart()` (R436). -/
def latchStart (b : Block) : Block :=
  match selectedChan b with
  | .play => { b with latchedStartPlay := rawStart b.raw }
  | .record => { b with latchedStartRec := rawStart b.raw }

/-- `LatchEnd()` (R437). -/
def latchEnd (b : Block) : Block :=
  match selectedChan b with
  | .play => { b with latchedEndPlay := rawEnd b.raw }
  | .record => { b with latchedEndRec := rawEnd b.raw }

/-! ### Store and handle, by register, each named by its default offset (R400: the byte is stored first, and the handler reads the stored bytes) -/

/-- `wb +0x00` (R401): the interrupt-enable flags. -/
def storeIntEnable (d : Byte) (s : State) : State :=
  updBlock (decodeIntEnable s.params.layout) (updRaw (fun r => { r with intEnable := d }) s)

/-- `wb +0x01` (R402): select, run edges and loop flags. -/
def storeDmaControl (d : Byte) (s : State) : State :=
  let s1 := updRaw (fun r => { r with dmaControl := d }) s
  let s2 := runEdge .play (playRunField s.params.layout s1.block.raw.dmaControl) s1
  let s3 := runEdge .record (recRunField s.params.layout s1.block.raw.dmaControl) s2
  updBlock (decodeDmaControl s.params.layout) s3

/-- `wb +0x03` (R403): a byte of the frame start. -/
def storeStartHi (d : Byte) (s : State) : State :=
  updBlock latchStart (updRaw (fun r => { r with startHi := d }) s)

/-- `wb +0x05` (R404): a byte of the frame start. -/
def storeStartMid (d : Byte) (s : State) : State :=
  updBlock latchStart (updRaw (fun r => { r with startMid := d }) s)

/-- `wb +0x07` (R405): a byte of the frame start. -/
def storeStartLo (d : Byte) (s : State) : State :=
  updBlock latchStart (updRaw (fun r => { r with startLo := d }) s)

/-- `wb +0x09` (R406): a byte of the frame counter, stored only. -/
def storeCountHi (d : Byte) (s : State) : State :=
  updRaw (fun r => { r with countHi := d }) s

/-- `wb +0x0B` (R407): a byte of the frame counter, stored only. -/
def storeCountMid (d : Byte) (s : State) : State :=
  updRaw (fun r => { r with countMid := d }) s

/-- `wb +0x0D` (R408): stored only with REC selected or by the parameter, else refused. -/
def storeCountLo (d : Byte) (s : State) : Except Refusal State :=
  if s.block.dmaSelected || s.params.frameCountLowPlay == .ignore then
    .ok (updRaw (fun r => { r with countLo := d }) s)
  else .error .unmodelledFrameCountWrite

/-- `wb +0x0F` (R409): a byte of the frame end. -/
def storeEndHi (d : Byte) (s : State) : State :=
  updBlock latchEnd (updRaw (fun r => { r with endHi := d }) s)

/-- `wb +0x11` (R410): a byte of the frame end. -/
def storeEndMid (d : Byte) (s : State) : State :=
  updBlock latchEnd (updRaw (fun r => { r with endMid := d }) s)

/-- `wb +0x13` (R411): a byte of the frame end. -/
def storeEndLo (d : Byte) (s : State) : State :=
  updBlock latchEnd (updRaw (fun r => { r with endLo := d }) s)

/-- `wb +0x20` (R412), then the recompute of 42_clock_scheduler.md R608. -/
def storeTrackControl (d : Byte) (s : State) : State :=
  updBlock (fun b => recompute s.params (decodeTrackControl s.params.layout b)) (updRaw (fun r => { r with trackControl := d }) s)

/-- `wb +0x21` (R413), then the recompute of 42_clock_scheduler.md R608. -/
def storeSoundMode (d : Byte) (s : State) : State :=
  updBlock (fun b => recompute s.params (decodeSoundMode s.params.layout b)) (updRaw (fun r => { r with soundMode := d }) s)

/-- `wb +0x30` (R414): a byte of the source selector. -/
def storeSrcHi (d : Byte) (s : State) : State :=
  updBlock (decodeSrc s.params.layout) (updRaw (fun r => { r with srcHi := d }) s)

/-- `wb +0x31` (R416): a byte of the source selector. -/
def storeSrcLo (d : Byte) (s : State) : State :=
  updBlock (decodeSrc s.params.layout) (updRaw (fun r => { r with srcLo := d }) s)

/-- `wb +0x32` (R418): a byte of the destination selector. -/
def storeDstHi (d : Byte) (s : State) : State :=
  updBlock (decodeDst s.params.layout) (updRaw (fun r => { r with dstHi := d }) s)

/-- `wb +0x33` (R420): a byte of the destination selector. -/
def storeDstLo (d : Byte) (s : State) : State :=
  updBlock (decodeDst s.params.layout) (updRaw (fun r => { r with dstLo := d }) s)

/-- `wb +0x34` (R421): pass-through. -/
def storeExtDivider (d : Byte) (s : State) : State :=
  updRaw (fun r => { r with extDivider := d }) s

/-- `wb +0x35` (R422), then the recompute of 42 R608. -/
def storeIntDivider (d : Byte) (s : State) : State :=
  updBlock (fun b => recompute s.params (decodeIntDivider s.params.layout b)) (updRaw (fun r => { r with intDivider := d }) s)

/-- `wb +0x36` (R423): the record tracks, no recompute. -/
def storeRecTracks (d : Byte) (s : State) : State :=
  updBlock (decodeRecTracks s.params.layout) (updRaw (fun r => { r with recTracks := d }) s)

/-- `wb +0x37` (R424): pass-through. -/
def storeCodecInput (d : Byte) (s : State) : State :=
  updRaw (fun r => { r with codecInput := d }) s

/-- `wb +0x38` (R425): pass-through. -/
def storeAdcInput (d : Byte) (s : State) : State :=
  updRaw (fun r => { r with adcInput := d }) s

/-- `wb +0x39` (R426): pass-through. -/
def storeGain (d : Byte) (s : State) : State :=
  updRaw (fun r => { r with gain := d }) s

/-- `wb +0x3A` (R427): pass-through. -/
def storeAtten0 (d : Byte) (s : State) : State :=
  updRaw (fun r => { r with atten0 := d }) s

/-- `wb +0x3B` (R428): pass-through. -/
def storeAtten1 (d : Byte) (s : State) : State :=
  updRaw (fun r => { r with atten1 := d }) s

/-- A write that is discarded: the read-only codec status (R429, R430) and every unassigned offset (R431). -/
def discardWrite (_d : Byte) (s : State) : State := s

/-- The write of the register, or unassigned byte, that the default map has at `row` (R400, 30 R301, R316). -/
def writeRow (row : Offset) (d : Byte) (s : State) : Except Refusal State :=
  match row.toNat with
  | 0x00 => .ok (storeIntEnable d s)
  | 0x01 => .ok (storeDmaControl d s)
  | 0x03 => .ok (storeStartHi d s)
  | 0x05 => .ok (storeStartMid d s)
  | 0x07 => .ok (storeStartLo d s)
  | 0x09 => .ok (storeCountHi d s)
  | 0x0B => .ok (storeCountMid d s)
  | 0x0D => storeCountLo d s
  | 0x0F => .ok (storeEndHi d s)
  | 0x11 => .ok (storeEndMid d s)
  | 0x13 => .ok (storeEndLo d s)
  | 0x20 => .ok (storeTrackControl d s)
  | 0x21 => .ok (storeSoundMode d s)
  | 0x30 => .ok (storeSrcHi d s)
  | 0x31 => .ok (storeSrcLo d s)
  | 0x32 => .ok (storeDstHi d s)
  | 0x33 => .ok (storeDstLo d s)
  | 0x34 => .ok (storeExtDivider d s)
  | 0x35 => .ok (storeIntDivider d s)
  | 0x36 => .ok (storeRecTracks d s)
  | 0x37 => .ok (storeCodecInput d s)
  | 0x38 => .ok (storeAdcInput d s)
  | 0x39 => .ok (storeGain d s)
  | 0x3A => .ok (storeAtten0 d s)
  | 0x3B => .ok (storeAtten1 d s)
  | _ => .ok (discardWrite d s)

/-- `Write8(o, d)` (R400): the write of what the layout table has at offset `o`. -/
def write8 (o : Offset) (d : Byte) (s : State) : Except Refusal State := writeRow (rowAt s.params.layout o) d s

/-! ### The meaning of each form -/

/-- `wb +0x00 (int_enable)` (R401) -/
def execWb00IntEnable (d : Byte) (s : State) : Out := whenReady s (.next (storeIntEnable d s))

/-- `wb +0x01 (dma_control)` (R402) -/
def execWb01DmaControl (d : Byte) (s : State) : Out := whenReady s (.next (storeDmaControl d s))

/-- `wb +0x03 (frame_start_hi)` (R403) -/
def execWb03FrameStartHi (d : Byte) (s : State) : Out := whenReady s (.next (storeStartHi d s))

/-- `wb +0x05 (frame_start_mid)` (R404) -/
def execWb05FrameStartMid (d : Byte) (s : State) : Out := whenReady s (.next (storeStartMid d s))

/-- `wb +0x07 (frame_start_lo)` (R405) -/
def execWb07FrameStartLo (d : Byte) (s : State) : Out := whenReady s (.next (storeStartLo d s))

/-- `wb +0x09 (frame_count_hi)` (R406) -/
def execWb09FrameCountHi (d : Byte) (s : State) : Out := whenReady s (.next (storeCountHi d s))

/-- `wb +0x0B (frame_count_mid)` (R407) -/
def execWb0BFrameCountMid (d : Byte) (s : State) : Out := whenReady s (.next (storeCountMid d s))

/-- `wb +0x0D (frame_count_lo)` (R408) -/
def execWb0DFrameCountLo (d : Byte) (s : State) : Out := whenReady s (finish (storeCountLo d s))

/-- `wb +0x0F (frame_end_hi)` (R409) -/
def execWb0FFrameEndHi (d : Byte) (s : State) : Out := whenReady s (.next (storeEndHi d s))

/-- `wb +0x11 (frame_end_mid)` (R410) -/
def execWb11FrameEndMid (d : Byte) (s : State) : Out := whenReady s (.next (storeEndMid d s))

/-- `wb +0x13 (frame_end_lo)` (R411) -/
def execWb13FrameEndLo (d : Byte) (s : State) : Out := whenReady s (.next (storeEndLo d s))

/-- `wb +0x20 (track_control)` (R412) -/
def execWb20TrackControl (d : Byte) (s : State) : Out := whenReady s (.next (storeTrackControl d s))

/-- `wb +0x21 (sound_mode)` (R413) -/
def execWb21SoundMode (d : Byte) (s : State) : Out := whenReady s (.next (storeSoundMode d s))

/-- `wb +0x30 (src_sel_hi)` (R414) -/
def execWb30SrcSelHi (d : Byte) (s : State) : Out := whenReady s (.next (storeSrcHi d s))

/-- `wb +0x31 (src_sel_lo)` (R416) -/
def execWb31SrcSelLo (d : Byte) (s : State) : Out := whenReady s (.next (storeSrcLo d s))

/-- `wb +0x32 (dst_sel_hi)` (R418) -/
def execWb32DstSelHi (d : Byte) (s : State) : Out := whenReady s (.next (storeDstHi d s))

/-- `wb +0x33 (dst_sel_lo)` (R420) -/
def execWb33DstSelLo (d : Byte) (s : State) : Out := whenReady s (.next (storeDstLo d s))

/-- `wb +0x34 (ext_divider)` (R421) -/
def execWb34ExtDivider (d : Byte) (s : State) : Out := whenReady s (.next (storeExtDivider d s))

/-- `wb +0x35 (int_divider)` (R422) -/
def execWb35IntDivider (d : Byte) (s : State) : Out := whenReady s (.next (storeIntDivider d s))

/-- `wb +0x36 (rec_tracks)` (R423) -/
def execWb36RecTracks (d : Byte) (s : State) : Out := whenReady s (.next (storeRecTracks d s))

/-- `wb +0x37 (codec_input)` (R424) -/
def execWb37CodecInput (d : Byte) (s : State) : Out := whenReady s (.next (storeCodecInput d s))

/-- `wb +0x38 (adc_input)` (R425) -/
def execWb38AdcInput (d : Byte) (s : State) : Out := whenReady s (.next (storeAdcInput d s))

/-- `wb +0x39 (gain)` (R426) -/
def execWb39Gain (d : Byte) (s : State) : Out := whenReady s (.next (storeGain d s))

/-- `wb +0x3A (atten_0)` (R427) -/
def execWb3AAtten0 (d : Byte) (s : State) : Out := whenReady s (.next (storeAtten0 d s))

/-- `wb +0x3B (atten_1)` (R428) -/
def execWb3BAtten1 (d : Byte) (s : State) : Out := whenReady s (.next (storeAtten1 d s))

/-- `wb +0x3C (codec_status_hi)` (R429) -/
def execWb3CCodecStatusHi (d : Byte) (s : State) : Out := whenReady s (.next (discardWrite d s))

/-- `wb +0x3D (codec_status_lo)` (R430) -/
def execWb3DCodecStatusLo (d : Byte) (s : State) : Out := whenReady s (.next (discardWrite d s))

/-- `wb +0x02 (unassigned)` (R431) -/
def execWb02Unassigned (d : Byte) (s : State) : Out := whenReady s (.next (discardWrite d s))

/-- `wb +0x04 (unassigned)` (R431) -/
def execWb04Unassigned (d : Byte) (s : State) : Out := whenReady s (.next (discardWrite d s))

/-- `wb +0x06 (unassigned)` (R431) -/
def execWb06Unassigned (d : Byte) (s : State) : Out := whenReady s (.next (discardWrite d s))

/-- `wb +0x08 (unassigned)` (R431) -/
def execWb08Unassigned (d : Byte) (s : State) : Out := whenReady s (.next (discardWrite d s))

/-- `wb +0x0A (unassigned)` (R431) -/
def execWb0AUnassigned (d : Byte) (s : State) : Out := whenReady s (.next (discardWrite d s))

/-- `wb +0x0C (unassigned)` (R431) -/
def execWb0CUnassigned (d : Byte) (s : State) : Out := whenReady s (.next (discardWrite d s))

/-- `wb +0x0E (unassigned)` (R431) -/
def execWb0EUnassigned (d : Byte) (s : State) : Out := whenReady s (.next (discardWrite d s))

/-- `wb +0x10 (unassigned)` (R431) -/
def execWb10Unassigned (d : Byte) (s : State) : Out := whenReady s (.next (discardWrite d s))

/-- `wb +0x12 (unassigned)` (R431) -/
def execWb12Unassigned (d : Byte) (s : State) : Out := whenReady s (.next (discardWrite d s))

/-- `wb +0x14 (unassigned)` (R431) -/
def execWb14Unassigned (d : Byte) (s : State) : Out := whenReady s (.next (discardWrite d s))

/-- `wb +0x15 (unassigned)` (R431) -/
def execWb15Unassigned (d : Byte) (s : State) : Out := whenReady s (.next (discardWrite d s))

/-- `wb +0x16 (unassigned)` (R431) -/
def execWb16Unassigned (d : Byte) (s : State) : Out := whenReady s (.next (discardWrite d s))

/-- `wb +0x17 (unassigned)` (R431) -/
def execWb17Unassigned (d : Byte) (s : State) : Out := whenReady s (.next (discardWrite d s))

/-- `wb +0x18 (unassigned)` (R431) -/
def execWb18Unassigned (d : Byte) (s : State) : Out := whenReady s (.next (discardWrite d s))

/-- `wb +0x19 (unassigned)` (R431) -/
def execWb19Unassigned (d : Byte) (s : State) : Out := whenReady s (.next (discardWrite d s))

/-- `wb +0x1A (unassigned)` (R431) -/
def execWb1AUnassigned (d : Byte) (s : State) : Out := whenReady s (.next (discardWrite d s))

/-- `wb +0x1B (unassigned)` (R431) -/
def execWb1BUnassigned (d : Byte) (s : State) : Out := whenReady s (.next (discardWrite d s))

/-- `wb +0x1C (unassigned)` (R431) -/
def execWb1CUnassigned (d : Byte) (s : State) : Out := whenReady s (.next (discardWrite d s))

/-- `wb +0x1D (unassigned)` (R431) -/
def execWb1DUnassigned (d : Byte) (s : State) : Out := whenReady s (.next (discardWrite d s))

/-- `wb +0x1E (unassigned)` (R431) -/
def execWb1EUnassigned (d : Byte) (s : State) : Out := whenReady s (.next (discardWrite d s))

/-- `wb +0x1F (unassigned)` (R431) -/
def execWb1FUnassigned (d : Byte) (s : State) : Out := whenReady s (.next (discardWrite d s))

/-- `wb +0x22 (unassigned)` (R431) -/
def execWb22Unassigned (d : Byte) (s : State) : Out := whenReady s (.next (discardWrite d s))

/-- `wb +0x23 (unassigned)` (R431) -/
def execWb23Unassigned (d : Byte) (s : State) : Out := whenReady s (.next (discardWrite d s))

/-- `wb +0x24 (unassigned)` (R431) -/
def execWb24Unassigned (d : Byte) (s : State) : Out := whenReady s (.next (discardWrite d s))

/-- `wb +0x25 (unassigned)` (R431) -/
def execWb25Unassigned (d : Byte) (s : State) : Out := whenReady s (.next (discardWrite d s))

/-- `wb +0x26 (unassigned)` (R431) -/
def execWb26Unassigned (d : Byte) (s : State) : Out := whenReady s (.next (discardWrite d s))

/-- `wb +0x27 (unassigned)` (R431) -/
def execWb27Unassigned (d : Byte) (s : State) : Out := whenReady s (.next (discardWrite d s))

/-- `wb +0x28 (unassigned)` (R431) -/
def execWb28Unassigned (d : Byte) (s : State) : Out := whenReady s (.next (discardWrite d s))

/-- `wb +0x29 (unassigned)` (R431) -/
def execWb29Unassigned (d : Byte) (s : State) : Out := whenReady s (.next (discardWrite d s))

/-- `wb +0x2A (unassigned)` (R431) -/
def execWb2AUnassigned (d : Byte) (s : State) : Out := whenReady s (.next (discardWrite d s))

/-- `wb +0x2B (unassigned)` (R431) -/
def execWb2BUnassigned (d : Byte) (s : State) : Out := whenReady s (.next (discardWrite d s))

/-- `wb +0x2C (unassigned)` (R431) -/
def execWb2CUnassigned (d : Byte) (s : State) : Out := whenReady s (.next (discardWrite d s))

/-- `wb +0x2D (unassigned)` (R431) -/
def execWb2DUnassigned (d : Byte) (s : State) : Out := whenReady s (.next (discardWrite d s))

/-- `wb +0x2E (unassigned)` (R431) -/
def execWb2EUnassigned (d : Byte) (s : State) : Out := whenReady s (.next (discardWrite d s))

/-- `wb +0x2F (unassigned)` (R431) -/
def execWb2FUnassigned (d : Byte) (s : State) : Out := whenReady s (.next (discardWrite d s))

/-- `wb +0x3E (unassigned)` (R431) -/
def execWb3EUnassigned (d : Byte) (s : State) : Out := whenReady s (.next (discardWrite d s))

/-- `wb +0x3F (unassigned)` (R431) -/
def execWb3FUnassigned (d : Byte) (s : State) : Out := whenReady s (.next (discardWrite d s))

end Sys2Proof.Machine
end

