-- ==== Sys2Proof/Machine/WideAccess.lean ====
section
/-! DEFINITION. Word and long bus accesses (30_encoding.md R331, R332, 60_exceptions.md R902, R903): byte accesses in
ascending order in one atomic step, refused as a whole. -/

namespace Sys2Proof.Machine

/-- A word write: `Write8(o, data[15:8])`, then `Write8(o + 1, data[7:0])` (R331). -/
def writeWord (o : Offset) (d : BitVec 16) (s : State) : Except Refusal State :=
  (write8 o (high8 d) s).bind (write8 (o + 1) (low8 d))

/-- A long write: the word at `o`, then the word at `o + 2` (R332). -/
def writeLong (o : Offset) (d : BitVec 32) (s : State) : Except Refusal State :=
  (writeWord o (d.extractLsb' 16 16) s).bind (writeWord (o + 2) (d.extractLsb' 0 16))

/-- The value of a word read: `Read8(o) : Read8(o + 1)` (R331). -/
def regWord (o : Offset) (s : State) : BitVec 16 := joinBytes (regByte o s) (regByte (o + 1) (regRead o s))

/-- The state after a word read. -/
def regReadWord (o : Offset) (s : State) : State := regRead (o + 1) (regRead o s)

/-- The value of a long read: `Read16(o) : Read16(o + 2)` (R332). -/
def regLong (o : Offset) (s : State) : BitVec 32 := joinWords (regWord o s) (regWord (o + 2) (regReadWord o s))

/-- The state after a long read. -/
def regReadLong (o : Offset) (s : State) : State := regReadWord (o + 2) (regReadWord o s)

/-- An access of `width` bytes at offset `o` of the window: refused at an odd address or past the window's end
(30 R334, 60 R903). The decoder gives an `Even` form neither. -/
def wideAccess (o : Offset) (width : Nat) (s : State) (k : Out) : Out :=
  whenReady s
    (if isOddAddr (busAddr s.params.regBase o) then .refused .misaligned
    else if !fitsWindow s.params.regBase o width then .refused .outsideWindow
    else k)

/-- `ww +o` at an even address (R331) -/
def execWwEven (o : Offset) (d : BitVec 16) (s : State) : Out := wideAccess o 2 s (finish (writeWord o d s))

/-- `ww +o` at an odd address (60 R903) -/
def execWwOdd (_o : Offset) (_d : BitVec 16) (s : State) : Out := refuseMisaligned s

/-- `wl +o` at an even address (R332) -/
def execWlEven (o : Offset) (d : BitVec 32) (s : State) : Out := wideAccess o 4 s (finish (writeLong o d s))

/-- `wl +o` at an odd address (60 R903) -/
def execWlOdd (_o : Offset) (_d : BitVec 32) (s : State) : Out := refuseMisaligned s

/-- `rw +o` at an even address (R331) -/
def execRwEven (o : Offset) (s : State) : Out :=
  wideAccess o 2 s (.next (giveResult (.word (regWord o s)) (regReadWord o s)))

/-- `rw +o` at an odd address (60 R903) -/
def execRwOdd (_o : Offset) (s : State) : Out := refuseMisaligned s

/-- `rl +o` at an even address (R332) -/
def execRlEven (o : Offset) (s : State) : Out :=
  wideAccess o 4 s (.next (giveResult (.long (regLong o s)) (regReadLong o s)))

/-- `rl +o` at an odd address (60 R903) -/
def execRlOdd (_o : Offset) (s : State) : Out := refuseMisaligned s

end Sys2Proof.Machine
end

