-- ==== Sys2Proof/Machine/Dispatch.lean ====
section
/-! DEFINITION. The dispatch from an operation to its meaning, one arm per row of spec/opcode_table.json. -/

namespace Sys2Proof.Machine

def exec (i : Instr) (s : State) : Host.Outcome State Fault Refusal :=
  match i with
  | .wb00IntEnable d => Sys2Proof.Machine.execWb00IntEnable d s
  | .wb01DmaControl d => Sys2Proof.Machine.execWb01DmaControl d s
  | .wb03FrameStartHi d => Sys2Proof.Machine.execWb03FrameStartHi d s
  | .wb05FrameStartMid d => Sys2Proof.Machine.execWb05FrameStartMid d s
  | .wb07FrameStartLo d => Sys2Proof.Machine.execWb07FrameStartLo d s
  | .wb09FrameCountHi d => Sys2Proof.Machine.execWb09FrameCountHi d s
  | .wb0BFrameCountMid d => Sys2Proof.Machine.execWb0BFrameCountMid d s
  | .wb0DFrameCountLo d => Sys2Proof.Machine.execWb0DFrameCountLo d s
  | .wb0FFrameEndHi d => Sys2Proof.Machine.execWb0FFrameEndHi d s
  | .wb11FrameEndMid d => Sys2Proof.Machine.execWb11FrameEndMid d s
  | .wb13FrameEndLo d => Sys2Proof.Machine.execWb13FrameEndLo d s
  | .wb20TrackControl d => Sys2Proof.Machine.execWb20TrackControl d s
  | .wb21SoundMode d => Sys2Proof.Machine.execWb21SoundMode d s
  | .wb30SrcSelHi d => Sys2Proof.Machine.execWb30SrcSelHi d s
  | .wb31SrcSelLo d => Sys2Proof.Machine.execWb31SrcSelLo d s
  | .wb32DstSelHi d => Sys2Proof.Machine.execWb32DstSelHi d s
  | .wb33DstSelLo d => Sys2Proof.Machine.execWb33DstSelLo d s
  | .wb34ExtDivider d => Sys2Proof.Machine.execWb34ExtDivider d s
  | .wb35IntDivider d => Sys2Proof.Machine.execWb35IntDivider d s
  | .wb36RecTracks d => Sys2Proof.Machine.execWb36RecTracks d s
  | .wb37CodecInput d => Sys2Proof.Machine.execWb37CodecInput d s
  | .wb38AdcInput d => Sys2Proof.Machine.execWb38AdcInput d s
  | .wb39Gain d => Sys2Proof.Machine.execWb39Gain d s
  | .wb3AAtten0 d => Sys2Proof.Machine.execWb3AAtten0 d s
  | .wb3BAtten1 d => Sys2Proof.Machine.execWb3BAtten1 d s
  | .wb3CCodecStatusHi d => Sys2Proof.Machine.execWb3CCodecStatusHi d s
  | .wb3DCodecStatusLo d => Sys2Proof.Machine.execWb3DCodecStatusLo d s
  | .wb02Unassigned d => Sys2Proof.Machine.execWb02Unassigned d s
  | .wb04Unassigned d => Sys2Proof.Machine.execWb04Unassigned d s
  | .wb06Unassigned d => Sys2Proof.Machine.execWb06Unassigned d s
  | .wb08Unassigned d => Sys2Proof.Machine.execWb08Unassigned d s
  | .wb0AUnassigned d => Sys2Proof.Machine.execWb0AUnassigned d s
  | .wb0CUnassigned d => Sys2Proof.Machine.execWb0CUnassigned d s
  | .wb0EUnassigned d => Sys2Proof.Machine.execWb0EUnassigned d s
  | .wb10Unassigned d => Sys2Proof.Machine.execWb10Unassigned d s
  | .wb12Unassigned d => Sys2Proof.Machine.execWb12Unassigned d s
  | .wb14Unassigned d => Sys2Proof.Machine.execWb14Unassigned d s
  | .wb15Unassigned d => Sys2Proof.Machine.execWb15Unassigned d s
  | .wb16Unassigned d => Sys2Proof.Machine.execWb16Unassigned d s
  | .wb17Unassigned d => Sys2Proof.Machine.execWb17Unassigned d s
  | .wb18Unassigned d => Sys2Proof.Machine.execWb18Unassigned d s
  | .wb19Unassigned d => Sys2Proof.Machine.execWb19Unassigned d s
  | .wb1AUnassigned d => Sys2Proof.Machine.execWb1AUnassigned d s
  | .wb1BUnassigned d => Sys2Proof.Machine.execWb1BUnassigned d s
  | .wb1CUnassigned d => Sys2Proof.Machine.execWb1CUnassigned d s
  | .wb1DUnassigned d => Sys2Proof.Machine.execWb1DUnassigned d s
  | .wb1EUnassigned d => Sys2Proof.Machine.execWb1EUnassigned d s
  | .wb1FUnassigned d => Sys2Proof.Machine.execWb1FUnassigned d s
  | .wb22Unassigned d => Sys2Proof.Machine.execWb22Unassigned d s
  | .wb23Unassigned d => Sys2Proof.Machine.execWb23Unassigned d s
  | .wb24Unassigned d => Sys2Proof.Machine.execWb24Unassigned d s
  | .wb25Unassigned d => Sys2Proof.Machine.execWb25Unassigned d s
  | .wb26Unassigned d => Sys2Proof.Machine.execWb26Unassigned d s
  | .wb27Unassigned d => Sys2Proof.Machine.execWb27Unassigned d s
  | .wb28Unassigned d => Sys2Proof.Machine.execWb28Unassigned d s
  | .wb29Unassigned d => Sys2Proof.Machine.execWb29Unassigned d s
  | .wb2AUnassigned d => Sys2Proof.Machine.execWb2AUnassigned d s
  | .wb2BUnassigned d => Sys2Proof.Machine.execWb2BUnassigned d s
  | .wb2CUnassigned d => Sys2Proof.Machine.execWb2CUnassigned d s
  | .wb2DUnassigned d => Sys2Proof.Machine.execWb2DUnassigned d s
  | .wb2EUnassigned d => Sys2Proof.Machine.execWb2EUnassigned d s
  | .wb2FUnassigned d => Sys2Proof.Machine.execWb2FUnassigned d s
  | .wb3EUnassigned d => Sys2Proof.Machine.execWb3EUnassigned d s
  | .wb3FUnassigned d => Sys2Proof.Machine.execWb3FUnassigned d s
  | .rb00IntEnable => Sys2Proof.Machine.execRb00IntEnable s
  | .rb01DmaControl => Sys2Proof.Machine.execRb01DmaControl s
  | .rb03FrameStartHi => Sys2Proof.Machine.execRb03FrameStartHi s
  | .rb05FrameStartMid => Sys2Proof.Machine.execRb05FrameStartMid s
  | .rb07FrameStartLo => Sys2Proof.Machine.execRb07FrameStartLo s
  | .rb09FrameCountHi => Sys2Proof.Machine.execRb09FrameCountHi s
  | .rb0BFrameCountMid => Sys2Proof.Machine.execRb0BFrameCountMid s
  | .rb0DFrameCountLo => Sys2Proof.Machine.execRb0DFrameCountLo s
  | .rb0FFrameEndHi => Sys2Proof.Machine.execRb0FFrameEndHi s
  | .rb11FrameEndMid => Sys2Proof.Machine.execRb11FrameEndMid s
  | .rb13FrameEndLo => Sys2Proof.Machine.execRb13FrameEndLo s
  | .rb20TrackControl => Sys2Proof.Machine.execRb20TrackControl s
  | .rb21SoundMode => Sys2Proof.Machine.execRb21SoundMode s
  | .rb30SrcSelHi => Sys2Proof.Machine.execRb30SrcSelHi s
  | .rb31SrcSelLo => Sys2Proof.Machine.execRb31SrcSelLo s
  | .rb32DstSelHi => Sys2Proof.Machine.execRb32DstSelHi s
  | .rb33DstSelLo => Sys2Proof.Machine.execRb33DstSelLo s
  | .rb34ExtDivider => Sys2Proof.Machine.execRb34ExtDivider s
  | .rb35IntDivider => Sys2Proof.Machine.execRb35IntDivider s
  | .rb36RecTracks => Sys2Proof.Machine.execRb36RecTracks s
  | .rb37CodecInput => Sys2Proof.Machine.execRb37CodecInput s
  | .rb38AdcInput => Sys2Proof.Machine.execRb38AdcInput s
  | .rb39Gain => Sys2Proof.Machine.execRb39Gain s
  | .rb3AAtten0 => Sys2Proof.Machine.execRb3AAtten0 s
  | .rb3BAtten1 => Sys2Proof.Machine.execRb3BAtten1 s
  | .rb3CCodecStatusHi => Sys2Proof.Machine.execRb3CCodecStatusHi s
  | .rb3DCodecStatusLo => Sys2Proof.Machine.execRb3DCodecStatusLo s
  | .rb02Unassigned => Sys2Proof.Machine.execRb02Unassigned s
  | .rb04Unassigned => Sys2Proof.Machine.execRb04Unassigned s
  | .rb06Unassigned => Sys2Proof.Machine.execRb06Unassigned s
  | .rb08Unassigned => Sys2Proof.Machine.execRb08Unassigned s
  | .rb0AUnassigned => Sys2Proof.Machine.execRb0AUnassigned s
  | .rb0CUnassigned => Sys2Proof.Machine.execRb0CUnassigned s
  | .rb0EUnassigned => Sys2Proof.Machine.execRb0EUnassigned s
  | .rb10Unassigned => Sys2Proof.Machine.execRb10Unassigned s
  | .rb12Unassigned => Sys2Proof.Machine.execRb12Unassigned s
  | .rb14Unassigned => Sys2Proof.Machine.execRb14Unassigned s
  | .rb15Unassigned => Sys2Proof.Machine.execRb15Unassigned s
  | .rb16Unassigned => Sys2Proof.Machine.execRb16Unassigned s
  | .rb17Unassigned => Sys2Proof.Machine.execRb17Unassigned s
  | .rb18Unassigned => Sys2Proof.Machine.execRb18Unassigned s
  | .rb19Unassigned => Sys2Proof.Machine.execRb19Unassigned s
  | .rb1AUnassigned => Sys2Proof.Machine.execRb1AUnassigned s
  | .rb1BUnassigned => Sys2Proof.Machine.execRb1BUnassigned s
  | .rb1CUnassigned => Sys2Proof.Machine.execRb1CUnassigned s
  | .rb1DUnassigned => Sys2Proof.Machine.execRb1DUnassigned s
  | .rb1EUnassigned => Sys2Proof.Machine.execRb1EUnassigned s
  | .rb1FUnassigned => Sys2Proof.Machine.execRb1FUnassigned s
  | .rb22Unassigned => Sys2Proof.Machine.execRb22Unassigned s
  | .rb23Unassigned => Sys2Proof.Machine.execRb23Unassigned s
  | .rb24Unassigned => Sys2Proof.Machine.execRb24Unassigned s
  | .rb25Unassigned => Sys2Proof.Machine.execRb25Unassigned s
  | .rb26Unassigned => Sys2Proof.Machine.execRb26Unassigned s
  | .rb27Unassigned => Sys2Proof.Machine.execRb27Unassigned s
  | .rb28Unassigned => Sys2Proof.Machine.execRb28Unassigned s
  | .rb29Unassigned => Sys2Proof.Machine.execRb29Unassigned s
  | .rb2AUnassigned => Sys2Proof.Machine.execRb2AUnassigned s
  | .rb2BUnassigned => Sys2Proof.Machine.execRb2BUnassigned s
  | .rb2CUnassigned => Sys2Proof.Machine.execRb2CUnassigned s
  | .rb2DUnassigned => Sys2Proof.Machine.execRb2DUnassigned s
  | .rb2EUnassigned => Sys2Proof.Machine.execRb2EUnassigned s
  | .rb2FUnassigned => Sys2Proof.Machine.execRb2FUnassigned s
  | .rb3EUnassigned => Sys2Proof.Machine.execRb3EUnassigned s
  | .rb3FUnassigned => Sys2Proof.Machine.execRb3FUnassigned s
  | .wwEven o d => Sys2Proof.Machine.execWwEven o d s
  | .wwOdd o d => Sys2Proof.Machine.execWwOdd o d s
  | .wlEven o d => Sys2Proof.Machine.execWlEven o d s
  | .wlOdd o d => Sys2Proof.Machine.execWlOdd o d s
  | .rwEven o => Sys2Proof.Machine.execRwEven o s
  | .rwOdd o => Sys2Proof.Machine.execRwOdd o s
  | .rlEven o => Sys2Proof.Machine.execRlEven o s
  | .rlOdd o => Sys2Proof.Machine.execRlOdd o s
  | .fireA e => Sys2Proof.Machine.execFireA e s
  | .fireB e => Sys2Proof.Machine.execFireB e s
  | .fsoPlay => Sys2Proof.Machine.execFsoPlay s
  | .fsoRec => Sys2Proof.Machine.execFsoRec s
  | .drain mix => Sys2Proof.Machine.execDrain mix s
  | .mic samples => Sys2Proof.Machine.execMic samples s
  | .resetCold => Sys2Proof.Machine.execResetCold s
  | .resetWarm => Sys2Proof.Machine.execResetWarm s
  | .capture => Sys2Proof.Machine.execCapture s
  | .restore img => Sys2Proof.Machine.execRestore img s

end Sys2Proof.Machine
end

