-- ==== Sys2Proof/WellFormed.lean ====
section
/-! DEFINITION. Which operations are well-formed at a given `REG_BASE` and layout table: those a descriptor can
name (30_encoding.md R330 to R335). Everything else about an operation is carried by the types of its fields. -/

namespace Sys2Proof

open Machine

/-- The byte access of a row names an address of the window. -/
def wfByte (base : Addr) (l : Layout) (row : Offset) : Bool := fitsWindow base (offsetOf l row) 1

/-- A word or long access of `width` bytes lies in the window at an even address. -/
def wfEven (base : Addr) (o : Offset) (width : Nat) : Bool := fitsWindow base o width && !isOddAddr (busAddr base o)

/-- A word or long access starts in the window at an odd address. -/
def wfOdd (base : Addr) (o : Offset) : Bool := fitsWindow base o 1 && isOddAddr (busAddr base o)

/-- The well-formed operations. -/
def wellFormed (base : Addr) (l : Layout) (i : Instr) : Bool :=
  match i with
  | .wb00IntEnable _ => wfByte base l 0x00
  | .wb01DmaControl _ => wfByte base l 0x01
  | .wb03FrameStartHi _ => wfByte base l 0x03
  | .wb05FrameStartMid _ => wfByte base l 0x05
  | .wb07FrameStartLo _ => wfByte base l 0x07
  | .wb09FrameCountHi _ => wfByte base l 0x09
  | .wb0BFrameCountMid _ => wfByte base l 0x0B
  | .wb0DFrameCountLo _ => wfByte base l 0x0D
  | .wb0FFrameEndHi _ => wfByte base l 0x0F
  | .wb11FrameEndMid _ => wfByte base l 0x11
  | .wb13FrameEndLo _ => wfByte base l 0x13
  | .wb20TrackControl _ => wfByte base l 0x20
  | .wb21SoundMode _ => wfByte base l 0x21
  | .wb30SrcSelHi _ => wfByte base l 0x30
  | .wb31SrcSelLo _ => wfByte base l 0x31
  | .wb32DstSelHi _ => wfByte base l 0x32
  | .wb33DstSelLo _ => wfByte base l 0x33
  | .wb34ExtDivider _ => wfByte base l 0x34
  | .wb35IntDivider _ => wfByte base l 0x35
  | .wb36RecTracks _ => wfByte base l 0x36
  | .wb37CodecInput _ => wfByte base l 0x37
  | .wb38AdcInput _ => wfByte base l 0x38
  | .wb39Gain _ => wfByte base l 0x39
  | .wb3AAtten0 _ => wfByte base l 0x3A
  | .wb3BAtten1 _ => wfByte base l 0x3B
  | .wb3CCodecStatusHi _ => wfByte base l 0x3C
  | .wb3DCodecStatusLo _ => wfByte base l 0x3D
  | .wb02Unassigned _ => wfByte base l 0x02
  | .wb04Unassigned _ => wfByte base l 0x04
  | .wb06Unassigned _ => wfByte base l 0x06
  | .wb08Unassigned _ => wfByte base l 0x08
  | .wb0AUnassigned _ => wfByte base l 0x0A
  | .wb0CUnassigned _ => wfByte base l 0x0C
  | .wb0EUnassigned _ => wfByte base l 0x0E
  | .wb10Unassigned _ => wfByte base l 0x10
  | .wb12Unassigned _ => wfByte base l 0x12
  | .wb14Unassigned _ => wfByte base l 0x14
  | .wb15Unassigned _ => wfByte base l 0x15
  | .wb16Unassigned _ => wfByte base l 0x16
  | .wb17Unassigned _ => wfByte base l 0x17
  | .wb18Unassigned _ => wfByte base l 0x18
  | .wb19Unassigned _ => wfByte base l 0x19
  | .wb1AUnassigned _ => wfByte base l 0x1A
  | .wb1BUnassigned _ => wfByte base l 0x1B
  | .wb1CUnassigned _ => wfByte base l 0x1C
  | .wb1DUnassigned _ => wfByte base l 0x1D
  | .wb1EUnassigned _ => wfByte base l 0x1E
  | .wb1FUnassigned _ => wfByte base l 0x1F
  | .wb22Unassigned _ => wfByte base l 0x22
  | .wb23Unassigned _ => wfByte base l 0x23
  | .wb24Unassigned _ => wfByte base l 0x24
  | .wb25Unassigned _ => wfByte base l 0x25
  | .wb26Unassigned _ => wfByte base l 0x26
  | .wb27Unassigned _ => wfByte base l 0x27
  | .wb28Unassigned _ => wfByte base l 0x28
  | .wb29Unassigned _ => wfByte base l 0x29
  | .wb2AUnassigned _ => wfByte base l 0x2A
  | .wb2BUnassigned _ => wfByte base l 0x2B
  | .wb2CUnassigned _ => wfByte base l 0x2C
  | .wb2DUnassigned _ => wfByte base l 0x2D
  | .wb2EUnassigned _ => wfByte base l 0x2E
  | .wb2FUnassigned _ => wfByte base l 0x2F
  | .wb3EUnassigned _ => wfByte base l 0x3E
  | .wb3FUnassigned _ => wfByte base l 0x3F
  | .rb00IntEnable => wfByte base l 0x00
  | .rb01DmaControl => wfByte base l 0x01
  | .rb03FrameStartHi => wfByte base l 0x03
  | .rb05FrameStartMid => wfByte base l 0x05
  | .rb07FrameStartLo => wfByte base l 0x07
  | .rb09FrameCountHi => wfByte base l 0x09
  | .rb0BFrameCountMid => wfByte base l 0x0B
  | .rb0DFrameCountLo => wfByte base l 0x0D
  | .rb0FFrameEndHi => wfByte base l 0x0F
  | .rb11FrameEndMid => wfByte base l 0x11
  | .rb13FrameEndLo => wfByte base l 0x13
  | .rb20TrackControl => wfByte base l 0x20
  | .rb21SoundMode => wfByte base l 0x21
  | .rb30SrcSelHi => wfByte base l 0x30
  | .rb31SrcSelLo => wfByte base l 0x31
  | .rb32DstSelHi => wfByte base l 0x32
  | .rb33DstSelLo => wfByte base l 0x33
  | .rb34ExtDivider => wfByte base l 0x34
  | .rb35IntDivider => wfByte base l 0x35
  | .rb36RecTracks => wfByte base l 0x36
  | .rb37CodecInput => wfByte base l 0x37
  | .rb38AdcInput => wfByte base l 0x38
  | .rb39Gain => wfByte base l 0x39
  | .rb3AAtten0 => wfByte base l 0x3A
  | .rb3BAtten1 => wfByte base l 0x3B
  | .rb3CCodecStatusHi => wfByte base l 0x3C
  | .rb3DCodecStatusLo => wfByte base l 0x3D
  | .rb02Unassigned => wfByte base l 0x02
  | .rb04Unassigned => wfByte base l 0x04
  | .rb06Unassigned => wfByte base l 0x06
  | .rb08Unassigned => wfByte base l 0x08
  | .rb0AUnassigned => wfByte base l 0x0A
  | .rb0CUnassigned => wfByte base l 0x0C
  | .rb0EUnassigned => wfByte base l 0x0E
  | .rb10Unassigned => wfByte base l 0x10
  | .rb12Unassigned => wfByte base l 0x12
  | .rb14Unassigned => wfByte base l 0x14
  | .rb15Unassigned => wfByte base l 0x15
  | .rb16Unassigned => wfByte base l 0x16
  | .rb17Unassigned => wfByte base l 0x17
  | .rb18Unassigned => wfByte base l 0x18
  | .rb19Unassigned => wfByte base l 0x19
  | .rb1AUnassigned => wfByte base l 0x1A
  | .rb1BUnassigned => wfByte base l 0x1B
  | .rb1CUnassigned => wfByte base l 0x1C
  | .rb1DUnassigned => wfByte base l 0x1D
  | .rb1EUnassigned => wfByte base l 0x1E
  | .rb1FUnassigned => wfByte base l 0x1F
  | .rb22Unassigned => wfByte base l 0x22
  | .rb23Unassigned => wfByte base l 0x23
  | .rb24Unassigned => wfByte base l 0x24
  | .rb25Unassigned => wfByte base l 0x25
  | .rb26Unassigned => wfByte base l 0x26
  | .rb27Unassigned => wfByte base l 0x27
  | .rb28Unassigned => wfByte base l 0x28
  | .rb29Unassigned => wfByte base l 0x29
  | .rb2AUnassigned => wfByte base l 0x2A
  | .rb2BUnassigned => wfByte base l 0x2B
  | .rb2CUnassigned => wfByte base l 0x2C
  | .rb2DUnassigned => wfByte base l 0x2D
  | .rb2EUnassigned => wfByte base l 0x2E
  | .rb2FUnassigned => wfByte base l 0x2F
  | .rb3EUnassigned => wfByte base l 0x3E
  | .rb3FUnassigned => wfByte base l 0x3F
  | .wwEven o _ => wfEven base o 2
  | .wwOdd o _ => wfOdd base o
  | .wlEven o _ => wfEven base o 4
  | .wlOdd o _ => wfOdd base o
  | .rwEven o => wfEven base o 2
  | .rwOdd o => wfOdd base o
  | .rlEven o => wfEven base o 4
  | .rlOdd o => wfOdd base o
  | .fireA _ => true
  | .fireB _ => true
  | .fsoPlay => true
  | .fsoRec => true
  | .drain _ => true
  | .mic _ => true
  | .resetCold => true
  | .resetWarm => true
  | .capture => true
  | .restore _ => true

end Sys2Proof
end

