-- ==== Sys2Proof/Decode.lean ====
section
/-! DEFINITION. The decoder from a descriptor and its operand to an operation, total, refusing by name, and the encoder
(30_encoding.md R330 to R335, opcode table). -/

namespace Sys2Proof

open Machine

/-- Why a descriptor names no operation. -/
inductive Reject where
  /-- reserved class, size or code, or a must-be-zero bit set (30 R334, 60 R902) -/
  | badDescriptor
  /-- a bus address outside the window, or an access that runs past its end (30 R334, 60 R902) -/
  | outsideWindow
  /-- the operand is not of the kind R330 and R333 give the descriptor: no operation of the spec
  (notes/assumptions/11.md) -/
  | operandMismatch
  deriving DecidableEq, Repr

/-! ### Fields of a descriptor (R330) -/

def descClass (w : BitVec 32) : BitVec 4 := w.extractLsb' 28 4
def descSize (w : BitVec 32) : BitVec 2 := w.extractLsb' 26 2
def descBusZero (w : BitVec 32) : BitVec 2 := w.extractLsb' 24 2
def descAddr (w : BitVec 32) : Addr := w.extractLsb' 0 24
def descEventZero (w : BitVec 32) : BitVec 20 := w.extractLsb' 8 20
def descCode (w : BitVec 32) : BitVec 8 := w.extractLsb' 0 8

/-- A bus descriptor. -/
def busDescriptor (cls : BitVec 4) (size : BitVec 2) (a : Addr) : BitVec 32 := cls ++ size ++ 0#2 ++ a

/-- An event descriptor. -/
def eventDescriptor (code : BitVec 8) : BitVec 32 := 0x2#4 ++ 0#20 ++ code

/-! ### Byte forms by row: the default offset of the opcode table -/

/-- `wb +o, d` for the default offsets `o` in 0x00..0x3F, in order. -/
def writeForms : List (Byte → Instr) :=
  [Instr.wb00IntEnable, Instr.wb01DmaControl, Instr.wb02Unassigned, Instr.wb03FrameStartHi,
   Instr.wb04Unassigned, Instr.wb05FrameStartMid, Instr.wb06Unassigned, Instr.wb07FrameStartLo]
  ++ [Instr.wb08Unassigned, Instr.wb09FrameCountHi, Instr.wb0AUnassigned, Instr.wb0BFrameCountMid,
   Instr.wb0CUnassigned, Instr.wb0DFrameCountLo, Instr.wb0EUnassigned, Instr.wb0FFrameEndHi]
  ++ [Instr.wb10Unassigned, Instr.wb11FrameEndMid, Instr.wb12Unassigned, Instr.wb13FrameEndLo,
   Instr.wb14Unassigned, Instr.wb15Unassigned, Instr.wb16Unassigned, Instr.wb17Unassigned]
  ++ [Instr.wb18Unassigned, Instr.wb19Unassigned, Instr.wb1AUnassigned, Instr.wb1BUnassigned,
   Instr.wb1CUnassigned, Instr.wb1DUnassigned, Instr.wb1EUnassigned, Instr.wb1FUnassigned]
  ++ [Instr.wb20TrackControl, Instr.wb21SoundMode, Instr.wb22Unassigned, Instr.wb23Unassigned,
   Instr.wb24Unassigned, Instr.wb25Unassigned, Instr.wb26Unassigned, Instr.wb27Unassigned]
  ++ [Instr.wb28Unassigned, Instr.wb29Unassigned, Instr.wb2AUnassigned, Instr.wb2BUnassigned,
   Instr.wb2CUnassigned, Instr.wb2DUnassigned, Instr.wb2EUnassigned, Instr.wb2FUnassigned]
  ++ [Instr.wb30SrcSelHi, Instr.wb31SrcSelLo, Instr.wb32DstSelHi, Instr.wb33DstSelLo,
   Instr.wb34ExtDivider, Instr.wb35IntDivider, Instr.wb36RecTracks, Instr.wb37CodecInput]
  ++ [Instr.wb38AdcInput, Instr.wb39Gain, Instr.wb3AAtten0, Instr.wb3BAtten1,
   Instr.wb3CCodecStatusHi, Instr.wb3DCodecStatusLo, Instr.wb3EUnassigned, Instr.wb3FUnassigned]

/-- `rb +o` for the default offsets `o` in 0x00..0x3F, in order. -/
def readForms : List Instr :=
  [Instr.rb00IntEnable, Instr.rb01DmaControl, Instr.rb02Unassigned, Instr.rb03FrameStartHi,
   Instr.rb04Unassigned, Instr.rb05FrameStartMid, Instr.rb06Unassigned, Instr.rb07FrameStartLo]
  ++ [Instr.rb08Unassigned, Instr.rb09FrameCountHi, Instr.rb0AUnassigned, Instr.rb0BFrameCountMid,
   Instr.rb0CUnassigned, Instr.rb0DFrameCountLo, Instr.rb0EUnassigned, Instr.rb0FFrameEndHi]
  ++ [Instr.rb10Unassigned, Instr.rb11FrameEndMid, Instr.rb12Unassigned, Instr.rb13FrameEndLo,
   Instr.rb14Unassigned, Instr.rb15Unassigned, Instr.rb16Unassigned, Instr.rb17Unassigned]
  ++ [Instr.rb18Unassigned, Instr.rb19Unassigned, Instr.rb1AUnassigned, Instr.rb1BUnassigned,
   Instr.rb1CUnassigned, Instr.rb1DUnassigned, Instr.rb1EUnassigned, Instr.rb1FUnassigned]
  ++ [Instr.rb20TrackControl, Instr.rb21SoundMode, Instr.rb22Unassigned, Instr.rb23Unassigned,
   Instr.rb24Unassigned, Instr.rb25Unassigned, Instr.rb26Unassigned, Instr.rb27Unassigned]
  ++ [Instr.rb28Unassigned, Instr.rb29Unassigned, Instr.rb2AUnassigned, Instr.rb2BUnassigned,
   Instr.rb2CUnassigned, Instr.rb2DUnassigned, Instr.rb2EUnassigned, Instr.rb2FUnassigned]
  ++ [Instr.rb30SrcSelHi, Instr.rb31SrcSelLo, Instr.rb32DstSelHi, Instr.rb33DstSelLo,
   Instr.rb34ExtDivider, Instr.rb35IntDivider, Instr.rb36RecTracks, Instr.rb37CodecInput]
  ++ [Instr.rb38AdcInput, Instr.rb39Gain, Instr.rb3AAtten0, Instr.rb3BAtten1,
   Instr.rb3CCodecStatusHi, Instr.rb3DCodecStatusLo, Instr.rb3EUnassigned, Instr.rb3FUnassigned]

/-- The byte write of a row. -/
def byteWriteForm (row : Offset) : Byte → Instr := writeForms.getD row.toNat .wb3FUnassigned

/-- The byte read of a row. -/
def byteReadForm (row : Offset) : Instr := readForms.getD row.toNat .rb3FUnassigned

/-! ### Decoding -/

/-- A byte, word or long write at offset `o` (R331, R332). A word or long at an odd address decodes to the form that is
refused as misaligned when it runs (60 R903). -/
def decodeWrite (base : Addr) (l : Layout) (size : BitVec 2) (o : Offset) (operand : Operand) : Except Reject Instr :=
  if size = 0 then
    match operand with
    | .byte d => .ok (byteWriteForm (rowAt l o) d)
    | _ => .error .operandMismatch
  else if size = 1 then
    match operand with
    | .word d =>
      if isOddAddr (busAddr base o) then .ok (.wwOdd o d)
      else if fitsWindow base o 2 then .ok (.wwEven o d) else .error .outsideWindow
    | _ => .error .operandMismatch
  else
    match operand with
    | .long d =>
      if isOddAddr (busAddr base o) then .ok (.wlOdd o d)
      else if fitsWindow base o 4 then .ok (.wlEven o d) else .error .outsideWindow
    | _ => .error .operandMismatch

/-- A byte, word or long read at offset `o` (R331, R332). -/
def decodeRead (base : Addr) (l : Layout) (size : BitVec 2) (o : Offset) (operand : Operand) : Except Reject Instr :=
  if operand ≠ .none then .error .operandMismatch
  else if size = 0 then .ok (byteReadForm (rowAt l o))
  else if isOddAddr (busAddr base o) then .ok (if size = 1 then .rwOdd o else .rlOdd o)
  else if size = 1 then (if fitsWindow base o 2 then .ok (.rwEven o) else .error .outsideWindow)
  else (if fitsWindow base o 4 then .ok (.rlEven o) else .error .outsideWindow)

/-- A bus operation (R330, R334). -/
def decodeBus (base : Addr) (l : Layout) (w : BitVec 32) (operand : Operand) : Except Reject Instr :=
  let a := descAddr w
  if descSize w = 3 ∨ descBusZero w ≠ 0 then .error .badDescriptor
  else if a.toNat < base.toNat ∨ base.toNat + 64 ≤ a.toNat then .error .outsideWindow
  else
    let o : Offset := BitVec.ofNat 6 (a.toNat - base.toNat)
    if descClass w = 0 then decodeRead base l (descSize w) o operand else decodeWrite base l (descSize w) o operand

/-- An event without an operand. -/
def plainEvent (i : Instr) (operand : Operand) : Except Reject Instr :=
  if operand = .none then .ok i else .error .operandMismatch

/-- An event (R333). -/
def decodeEvent (w : BitVec 32) (operand : Operand) : Except Reject Instr :=
  if descEventZero w ≠ 0 then .error .badDescriptor
  else
    match (descCode w).toNat with
    | 0x01 =>
      match operand with
      | .epoch e => .ok (.fireA e)
      | _ => .error .operandMismatch
    | 0x02 =>
      match operand with
      | .epoch e => .ok (.fireB e)
      | _ => .error .operandMismatch
    | 0x03 => plainEvent .fsoPlay operand
    | 0x04 => plainEvent .fsoRec operand
    | 0x05 =>
      match operand with
      | .pairs mix => .ok (.drain mix)
      | _ => .error .operandMismatch
    | 0x06 =>
      match operand with
      | .pairs l => .ok (.mic l)
      | _ => .error .operandMismatch
    | 0x07 => plainEvent .resetCold operand
    | 0x08 => plainEvent .resetWarm operand
    | 0x09 => plainEvent .capture operand
    | 0x0A =>
      match operand with
      | .image b => .ok (.restore b)
      | _ => .error .operandMismatch
    | _ => .error .badDescriptor

/-- The decoder (R330, R334, R335). -/
def decode (base : Addr) (l : Layout) (w : BitVec 32) (operand : Operand) : Except Reject Instr :=
  if descClass w = 0 ∨ descClass w = 1 then decodeBus base l w operand
  else if descClass w = 2 then decodeEvent w operand
  else .error .badDescriptor

/-! ### Encoding -/

/-- The descriptor and operand of a row's byte write. -/
def encodeByteWrite (base : Addr) (l : Layout) (row : Offset) (d : Byte) : BitVec 32 × Operand :=
  (busDescriptor 1 0 (busAddr base (offsetOf l row)), .byte d)

/-- The descriptor and operand of a row's byte read. -/
def encodeByteRead (base : Addr) (l : Layout) (row : Offset) : BitVec 32 × Operand :=
  (busDescriptor 0 0 (busAddr base (offsetOf l row)), .none)

/-- The encoder: the descriptor and operand of an operation. -/
def encode (base : Addr) (l : Layout) (i : Instr) : BitVec 32 × Operand :=
  match i with
  | .wb00IntEnable d => encodeByteWrite base l 0x00 d
  | .wb01DmaControl d => encodeByteWrite base l 0x01 d
  | .wb03FrameStartHi d => encodeByteWrite base l 0x03 d
  | .wb05FrameStartMid d => encodeByteWrite base l 0x05 d
  | .wb07FrameStartLo d => encodeByteWrite base l 0x07 d
  | .wb09FrameCountHi d => encodeByteWrite base l 0x09 d
  | .wb0BFrameCountMid d => encodeByteWrite base l 0x0B d
  | .wb0DFrameCountLo d => encodeByteWrite base l 0x0D d
  | .wb0FFrameEndHi d => encodeByteWrite base l 0x0F d
  | .wb11FrameEndMid d => encodeByteWrite base l 0x11 d
  | .wb13FrameEndLo d => encodeByteWrite base l 0x13 d
  | .wb20TrackControl d => encodeByteWrite base l 0x20 d
  | .wb21SoundMode d => encodeByteWrite base l 0x21 d
  | .wb30SrcSelHi d => encodeByteWrite base l 0x30 d
  | .wb31SrcSelLo d => encodeByteWrite base l 0x31 d
  | .wb32DstSelHi d => encodeByteWrite base l 0x32 d
  | .wb33DstSelLo d => encodeByteWrite base l 0x33 d
  | .wb34ExtDivider d => encodeByteWrite base l 0x34 d
  | .wb35IntDivider d => encodeByteWrite base l 0x35 d
  | .wb36RecTracks d => encodeByteWrite base l 0x36 d
  | .wb37CodecInput d => encodeByteWrite base l 0x37 d
  | .wb38AdcInput d => encodeByteWrite base l 0x38 d
  | .wb39Gain d => encodeByteWrite base l 0x39 d
  | .wb3AAtten0 d => encodeByteWrite base l 0x3A d
  | .wb3BAtten1 d => encodeByteWrite base l 0x3B d
  | .wb3CCodecStatusHi d => encodeByteWrite base l 0x3C d
  | .wb3DCodecStatusLo d => encodeByteWrite base l 0x3D d
  | .wb02Unassigned d => encodeByteWrite base l 0x02 d
  | .wb04Unassigned d => encodeByteWrite base l 0x04 d
  | .wb06Unassigned d => encodeByteWrite base l 0x06 d
  | .wb08Unassigned d => encodeByteWrite base l 0x08 d
  | .wb0AUnassigned d => encodeByteWrite base l 0x0A d
  | .wb0CUnassigned d => encodeByteWrite base l 0x0C d
  | .wb0EUnassigned d => encodeByteWrite base l 0x0E d
  | .wb10Unassigned d => encodeByteWrite base l 0x10 d
  | .wb12Unassigned d => encodeByteWrite base l 0x12 d
  | .wb14Unassigned d => encodeByteWrite base l 0x14 d
  | .wb15Unassigned d => encodeByteWrite base l 0x15 d
  | .wb16Unassigned d => encodeByteWrite base l 0x16 d
  | .wb17Unassigned d => encodeByteWrite base l 0x17 d
  | .wb18Unassigned d => encodeByteWrite base l 0x18 d
  | .wb19Unassigned d => encodeByteWrite base l 0x19 d
  | .wb1AUnassigned d => encodeByteWrite base l 0x1A d
  | .wb1BUnassigned d => encodeByteWrite base l 0x1B d
  | .wb1CUnassigned d => encodeByteWrite base l 0x1C d
  | .wb1DUnassigned d => encodeByteWrite base l 0x1D d
  | .wb1EUnassigned d => encodeByteWrite base l 0x1E d
  | .wb1FUnassigned d => encodeByteWrite base l 0x1F d
  | .wb22Unassigned d => encodeByteWrite base l 0x22 d
  | .wb23Unassigned d => encodeByteWrite base l 0x23 d
  | .wb24Unassigned d => encodeByteWrite base l 0x24 d
  | .wb25Unassigned d => encodeByteWrite base l 0x25 d
  | .wb26Unassigned d => encodeByteWrite base l 0x26 d
  | .wb27Unassigned d => encodeByteWrite base l 0x27 d
  | .wb28Unassigned d => encodeByteWrite base l 0x28 d
  | .wb29Unassigned d => encodeByteWrite base l 0x29 d
  | .wb2AUnassigned d => encodeByteWrite base l 0x2A d
  | .wb2BUnassigned d => encodeByteWrite base l 0x2B d
  | .wb2CUnassigned d => encodeByteWrite base l 0x2C d
  | .wb2DUnassigned d => encodeByteWrite base l 0x2D d
  | .wb2EUnassigned d => encodeByteWrite base l 0x2E d
  | .wb2FUnassigned d => encodeByteWrite base l 0x2F d
  | .wb3EUnassigned d => encodeByteWrite base l 0x3E d
  | .wb3FUnassigned d => encodeByteWrite base l 0x3F d
  | .rb00IntEnable => encodeByteRead base l 0x00
  | .rb01DmaControl => encodeByteRead base l 0x01
  | .rb03FrameStartHi => encodeByteRead base l 0x03
  | .rb05FrameStartMid => encodeByteRead base l 0x05
  | .rb07FrameStartLo => encodeByteRead base l 0x07
  | .rb09FrameCountHi => encodeByteRead base l 0x09
  | .rb0BFrameCountMid => encodeByteRead base l 0x0B
  | .rb0DFrameCountLo => encodeByteRead base l 0x0D
  | .rb0FFrameEndHi => encodeByteRead base l 0x0F
  | .rb11FrameEndMid => encodeByteRead base l 0x11
  | .rb13FrameEndLo => encodeByteRead base l 0x13
  | .rb20TrackControl => encodeByteRead base l 0x20
  | .rb21SoundMode => encodeByteRead base l 0x21
  | .rb30SrcSelHi => encodeByteRead base l 0x30
  | .rb31SrcSelLo => encodeByteRead base l 0x31
  | .rb32DstSelHi => encodeByteRead base l 0x32
  | .rb33DstSelLo => encodeByteRead base l 0x33
  | .rb34ExtDivider => encodeByteRead base l 0x34
  | .rb35IntDivider => encodeByteRead base l 0x35
  | .rb36RecTracks => encodeByteRead base l 0x36
  | .rb37CodecInput => encodeByteRead base l 0x37
  | .rb38AdcInput => encodeByteRead base l 0x38
  | .rb39Gain => encodeByteRead base l 0x39
  | .rb3AAtten0 => encodeByteRead base l 0x3A
  | .rb3BAtten1 => encodeByteRead base l 0x3B
  | .rb3CCodecStatusHi => encodeByteRead base l 0x3C
  | .rb3DCodecStatusLo => encodeByteRead base l 0x3D
  | .rb02Unassigned => encodeByteRead base l 0x02
  | .rb04Unassigned => encodeByteRead base l 0x04
  | .rb06Unassigned => encodeByteRead base l 0x06
  | .rb08Unassigned => encodeByteRead base l 0x08
  | .rb0AUnassigned => encodeByteRead base l 0x0A
  | .rb0CUnassigned => encodeByteRead base l 0x0C
  | .rb0EUnassigned => encodeByteRead base l 0x0E
  | .rb10Unassigned => encodeByteRead base l 0x10
  | .rb12Unassigned => encodeByteRead base l 0x12
  | .rb14Unassigned => encodeByteRead base l 0x14
  | .rb15Unassigned => encodeByteRead base l 0x15
  | .rb16Unassigned => encodeByteRead base l 0x16
  | .rb17Unassigned => encodeByteRead base l 0x17
  | .rb18Unassigned => encodeByteRead base l 0x18
  | .rb19Unassigned => encodeByteRead base l 0x19
  | .rb1AUnassigned => encodeByteRead base l 0x1A
  | .rb1BUnassigned => encodeByteRead base l 0x1B
  | .rb1CUnassigned => encodeByteRead base l 0x1C
  | .rb1DUnassigned => encodeByteRead base l 0x1D
  | .rb1EUnassigned => encodeByteRead base l 0x1E
  | .rb1FUnassigned => encodeByteRead base l 0x1F
  | .rb22Unassigned => encodeByteRead base l 0x22
  | .rb23Unassigned => encodeByteRead base l 0x23
  | .rb24Unassigned => encodeByteRead base l 0x24
  | .rb25Unassigned => encodeByteRead base l 0x25
  | .rb26Unassigned => encodeByteRead base l 0x26
  | .rb27Unassigned => encodeByteRead base l 0x27
  | .rb28Unassigned => encodeByteRead base l 0x28
  | .rb29Unassigned => encodeByteRead base l 0x29
  | .rb2AUnassigned => encodeByteRead base l 0x2A
  | .rb2BUnassigned => encodeByteRead base l 0x2B
  | .rb2CUnassigned => encodeByteRead base l 0x2C
  | .rb2DUnassigned => encodeByteRead base l 0x2D
  | .rb2EUnassigned => encodeByteRead base l 0x2E
  | .rb2FUnassigned => encodeByteRead base l 0x2F
  | .rb3EUnassigned => encodeByteRead base l 0x3E
  | .rb3FUnassigned => encodeByteRead base l 0x3F
  | .wwEven o d => (busDescriptor 1 1 (busAddr base o), .word d)
  | .wwOdd o d => (busDescriptor 1 1 (busAddr base o), .word d)
  | .wlEven o d => (busDescriptor 1 2 (busAddr base o), .long d)
  | .wlOdd o d => (busDescriptor 1 2 (busAddr base o), .long d)
  | .rwEven o => (busDescriptor 0 1 (busAddr base o), .none)
  | .rwOdd o => (busDescriptor 0 1 (busAddr base o), .none)
  | .rlEven o => (busDescriptor 0 2 (busAddr base o), .none)
  | .rlOdd o => (busDescriptor 0 2 (busAddr base o), .none)
  | .fireA e => (eventDescriptor 0x01, .epoch e)
  | .fireB e => (eventDescriptor 0x02, .epoch e)
  | .fsoPlay => (eventDescriptor 0x03, .none)
  | .fsoRec => (eventDescriptor 0x04, .none)
  | .drain mix => (eventDescriptor 0x05, .pairs mix)
  | .mic l => (eventDescriptor 0x06, .pairs l)
  | .resetCold => (eventDescriptor 0x07, .none)
  | .resetWarm => (eventDescriptor 0x08, .none)
  | .capture => (eventDescriptor 0x09, .none)
  | .restore b => (eventDescriptor 0x0A, .image b)

/-! ### One word of the opcode table -/

/-- The operand of a descriptor when every operand word is zero: data 0, epoch 0, no pairs. An image has no byte layout
(44 R830), so for RESTORE it is the image of the block right after its first reset (notes/assumptions/9.md). -/
def zeroOperand (w : BitVec 32) : Operand :=
  if descClass w = 1 then
    (if descSize w = 0 then .byte 0 else if descSize w = 1 then .word 0 else .long 0)
  else if descClass w = 2 then
    match (descCode w).toNat with
    | 0x01 => .epoch 0
    | 0x02 => .epoch 0
    | 0x05 => .pairs []
    | 0x06 => .pairs []
    | 0x0A => .image (resetBlock exampleParams 1)
    | _ => .none
  else .none

/-- The descriptor whose `nbits` table bits are those of `w`; the bits above are 0. -/
def tableDescriptor (nbits w : Nat) : BitVec 32 := BitVec.ofNat 32 (w % 2 ^ nbits)

/-- What the decoder reads from a row's word, at the default `REG_BASE` and layout. -/
def decodeTableWord (nbits w : Nat) : Option Instr :=
  match decode defaultRegBase defaultLayout (tableDescriptor nbits w) (zeroOperand (tableDescriptor nbits w)) with
  | .ok i => some i
  | .error _ => none

end Sys2Proof
end

