-- ==== Sys2Proof/Machine/Fetch.lean ====
section
/-! DEFINITION. Taking the next operation of the stream (10_state.md R101): what other agents did comes first, then the
descriptor is decoded. -/

namespace Sys2Proof.Machine

/-- The stream without its first entry, after what other agents did before it: their stores have reached main memory and
their words the DSP (20_memory.md R221; notes/assumptions/4.md, 5.md). -/
def arrive (op : Operation) (rest : List Operation) (s : State) : State :=
  { s with
    stream := rest
    memory := memStores s.memory op.stores
    dspWords := s.dspWords ++ op.dspWords }

/-- The decoder's reason as a refusal of the machine. -/
def refusalOf (r : Reject) : Refusal :=
  match r with
  | .badDescriptor => .badDescriptor
  | .outsideWindow => .outsideWindow
  | .operandMismatch => .operandMismatch

/-- The operation a stream entry stands for, at the instance's `REG_BASE` and layout. -/
def decodeOperation (op : Operation) (s : State) : Except Reject Instr :=
  decode s.params.regBase s.params.layout op.descriptor op.operand

/-- A stream entry that other agents do nothing before. -/
def plainOperation (descriptor : BitVec 32) (operand : Operand) : Operation where
  stores := []
  dspWords := []
  descriptor := descriptor
  operand := operand

/-- Put an operation in front of the stream. -/
def pushOperation (op : Operation) (s : State) : State := { s with stream := op :: s.stream }

end Sys2Proof.Machine
end

