-- ==== Sys2Proof/Machine/Step.lean ====
section
/-! DEFINITION. One step of the machine: the next operation of the stream, run to its end (10_state.md R101,
00_scope.md R19). -/

namespace Sys2Proof.Machine

/-- The step. An entry the decoder refuses is refused; an empty stream leaves the block waiting. -/
def step (s : State) : Host.Outcome State Fault Refusal :=
  match s.stream with
  | [] => idle s
  | op :: rest =>
    match decodeOperation op s with
    | .error r => .refused (refusalOf r)
    | .ok i => exec i (arrive op rest s)

/-- The state with one table row's operation in front of the stream, its operand words zero, so that the next step runs
it (notes/assumptions/8.md, 9.md). -/
def State.withFetchWord (s : State) (nbits w : Nat) : State :=
  pushOperation (plainOperation (tableDescriptor nbits w) (zeroOperand (tableDescriptor nbits w))) s

end Sys2Proof.Machine
end

