-- ==== Sys2Proof/Machine/PseudoOps.lean ====
section
/-! DEFINITION. The pseudo-operations of the spec's assembler text (30_encoding.md R337) as the operations they
expand to. -/

namespace Sys2Proof.Machine

/-- `setstart a24` (R337) -/
def setStart (a : Addr) : List Instr :=
  [.wb03FrameStartHi (addrHi a), .wb05FrameStartMid (addrMid a), .wb07FrameStartLo (addrLo a)]

/-- `setend a24` (R337) -/
def setEnd (a : Addr) : List Instr :=
  [.wb0FFrameEndHi (addrHi a), .wb11FrameEndMid (addrMid a), .wb13FrameEndLo (addrLo a)]

/-- `select PLAY` clears and `select REC` sets the select bit of `raw[0x01]` and leaves the others (R337). -/
def select (ch : Chan) (s : State) : Instr :=
  match ch with
  | .play => .wb01DmaControl (clearBit s.params.layout.dmaSelect s.block.raw.dmaControl)
  | .record => .wb01DmaControl (setBit s.params.layout.dmaSelect s.block.raw.dmaControl)

/-- `tick A` and `tick B`: a fire with the current epoch (R337). -/
def tick (x : OscId) (s : State) : Instr :=
  match x with
  | .a => .fireA s.block.epoch
  | .b => .fireB s.block.epoch

end Sys2Proof.Machine
end

