-- ==== Sys2Proof/Safety.lean ====
section
/-! DEFINITION. What counts as a good state, and the groups of operations the claims name. -/

namespace Sys2Proof.Machine

/-- The instance's parameters meet 00_scope.md R12, its layout table is one, and a reset has run (70 R1005): no operation is refused for either. -/
def Ready (s : State) : Prop := paramsValid s.params = true ∧ s.hasReset = true

/-- The invariant of the machine: memory is in its canonical form and, once a reset has run, the block meets every
invariant of 10_state.md, those 44_host_bridge.md R832 lists. -/
def Inv (s : State) : Prop := memWf s.memory = true ∧ (s.hasReset = true → imageOk s.params s.block = true)

/-- A write to 0x0D is not refused (40 R408). -/
def CountLoOpen (s : State) : Prop := s.block.dmaSelected = true ∨ s.params.frameCountLowPlay = .ignore

/-- A wide write of `bytes` from offset `o` on is not refused (40 R408, 30 R331): it does not reach the low frame-counter
byte, the parameter says ignore, or REC is selected when that byte is written, by the DMA-control byte if the write has
passed it by then, else as before the write. -/
def WideWriteOpen (s : State) (o : Offset) (bytes : List Byte) : Prop :=
  let low := (offsetOf s.params.layout 0x0D).toNat
  let control := (offsetOf s.params.layout 0x01).toNat
  s.params.frameCountLowPlay = .ignore ∨
    (o.toNat ≤ low → low < o.toNat + bytes.length →
      (if o.toNat ≤ control ∧ control < low then (bytes.getD (control - o.toNat) 0).getLsbD s.params.layout.dmaSelect
      else s.block.dmaSelected) = true)

/-- The play tick moves a sample: the channel runs and is not waiting for the DSP (43 R701, R702). -/
def PlayMoves (s : State) : Prop :=
  s.block.playDma.isRunning = true ∧
    (s.block.playDma.connectedToDspHandshake = true → s.block.playDma.handshakeFrame = true)

/-- The part of the block that no sub-flow of a fire changes: the block with the fields the sub-flows write (43_transfer_engine.md,
"State written") put at fixed values. Of the register file only the two run bits may change (10 R104). -/
def fixedPart (l : Layout) (b : Block) : Block :=
  { b with
    raw := { b.raw with dmaControl := clearBit l.playRun (clearBit l.recRun b.raw.dmaControl) }
    playDma := { b.playDma with
      frameStart := 0, frameEnd := 0, frameLen := 0, frameCounter := 0, isRunning := false, slot := 0
      handshakeFrame := false }
    recDma := { b.recDma with
      frameStart := 0, frameEnd := 0, frameLen := 0, frameCounter := 0, isRunning := false, slot := 0
      handshakeFrame := false }
    dspTx := { b.dspTx with wordCount := 0 }
    adc := { b.adc with side := .left }
    dac := { b.dac with left := [], right := [], wr := 0 }
    dacPending := f64Zero
    adcBuf := { b.adcBuf with rd := 0 } }

/-! ### Groups of operations -/

/-- Byte writes that are discarded: the codec status (40 R429, R430) and the unassigned offsets (R431). -/
def discardedWrites (d : Byte) : List Instr :=
  [.wb3CCodecStatusHi d, .wb3DCodecStatusLo d, .wb02Unassigned d, .wb04Unassigned d,
      .wb06Unassigned d, .wb08Unassigned d, .wb0AUnassigned d, .wb0CUnassigned d,
      .wb0EUnassigned d, .wb10Unassigned d, .wb12Unassigned d, .wb14Unassigned d,
      .wb15Unassigned d, .wb16Unassigned d, .wb17Unassigned d, .wb18Unassigned d,
      .wb19Unassigned d, .wb1AUnassigned d, .wb1BUnassigned d, .wb1CUnassigned d,
      .wb1DUnassigned d, .wb1EUnassigned d, .wb1FUnassigned d, .wb22Unassigned d,
      .wb23Unassigned d, .wb24Unassigned d, .wb25Unassigned d, .wb26Unassigned d,
      .wb27Unassigned d, .wb28Unassigned d, .wb29Unassigned d, .wb2AUnassigned d,
      .wb2BUnassigned d, .wb2CUnassigned d, .wb2DUnassigned d, .wb2EUnassigned d,
      .wb2FUnassigned d, .wb3EUnassigned d, .wb3FUnassigned d]

/-- Byte reads of unassigned offsets (41 R529). -/
def unassignedReads : List Instr :=
  [.rb02Unassigned, .rb04Unassigned, .rb06Unassigned, .rb08Unassigned,
      .rb0AUnassigned, .rb0CUnassigned, .rb0EUnassigned, .rb10Unassigned,
      .rb12Unassigned, .rb14Unassigned, .rb15Unassigned, .rb16Unassigned,
      .rb17Unassigned, .rb18Unassigned, .rb19Unassigned, .rb1AUnassigned,
      .rb1BUnassigned, .rb1CUnassigned, .rb1DUnassigned, .rb1EUnassigned,
      .rb1FUnassigned, .rb22Unassigned, .rb23Unassigned, .rb24Unassigned,
      .rb25Unassigned, .rb26Unassigned, .rb27Unassigned, .rb28Unassigned,
      .rb29Unassigned, .rb2AUnassigned, .rb2BUnassigned, .rb2CUnassigned,
      .rb2DUnassigned, .rb2EUnassigned, .rb2FUnassigned, .rb3EUnassigned,
      .rb3FUnassigned]

/-- Byte reads that return the stored byte, each with the byte it returns (41 R501 to R526). -/
def storedReads (r : RawRegs) : List (Instr × Byte) :=
  [(.rb00IntEnable, r.intEnable), (.rb01DmaControl, r.dmaControl), (.rb03FrameStartHi, r.startHi), (.rb05FrameStartMid, r.startMid),
      (.rb07FrameStartLo, r.startLo), (.rb0FFrameEndHi, r.endHi), (.rb11FrameEndMid, r.endMid), (.rb13FrameEndLo, r.endLo),
      (.rb20TrackControl, r.trackControl), (.rb21SoundMode, r.soundMode), (.rb30SrcSelHi, r.srcHi), (.rb31SrcSelLo, r.srcLo),
      (.rb32DstSelHi, r.dstHi), (.rb33DstSelLo, r.dstLo), (.rb34ExtDivider, r.extDivider), (.rb35IntDivider, r.intDivider),
      (.rb36RecTracks, r.recTracks), (.rb37CodecInput, r.codecInput), (.rb38AdcInput, r.adcInput), (.rb39Gain, r.gain),
      (.rb3AAtten0, r.atten0), (.rb3BAtten1, r.atten1)]

/-- Byte writes that only store, each with the register file it leaves (40 R406, R407, R421, R424 to R428). -/
def storeOnlyWrites (d : Byte) (r : RawRegs) : List (Instr × RawRegs) :=
  [(.wb09FrameCountHi d, { r with countHi := d }),
   (.wb0BFrameCountMid d, { r with countMid := d }),
   (.wb34ExtDivider d, { r with extDivider := d }),
   (.wb37CodecInput d, { r with codecInput := d }),
   (.wb38AdcInput d, { r with adcInput := d }),
   (.wb39Gain d, { r with gain := d }),
   (.wb3AAtten0 d, { r with atten0 := d }),
   (.wb3BAtten1 d, { r with atten1 := d })]

/-- Byte writes to the frame start bytes (40 R403 to R405), each with the register file it leaves. -/
def frameStartWrites (d : Byte) (r : RawRegs) : List (Instr × RawRegs) :=
  [(.wb03FrameStartHi d, { r with startHi := d }),
   (.wb05FrameStartMid d, { r with startMid := d }),
   (.wb07FrameStartLo d, { r with startLo := d })]

/-- Byte writes to the frame end bytes (40 R409 to R411), each with the register file it leaves. -/
def frameEndWrites (d : Byte) (r : RawRegs) : List (Instr × RawRegs) :=
  [(.wb0FFrameEndHi d, { r with endHi := d }),
   (.wb11FrameEndMid d, { r with endMid := d }),
   (.wb13FrameEndLo d, { r with endLo := d })]

/-- Byte writes to the source selector bytes (40 R414, R416), each with the register file it leaves. -/
def sourceWrites (d : Byte) (r : RawRegs) : List (Instr × RawRegs) :=
  [(.wb30SrcSelHi d, { r with srcHi := d }),
   (.wb31SrcSelLo d, { r with srcLo := d })]

/-- Byte writes to the destination selector bytes (40 R418, R420), each with the register file it leaves. -/
def destinationWrites (d : Byte) (r : RawRegs) : List (Instr × RawRegs) :=
  [(.wb32DstSelHi d, { r with dstHi := d }),
   (.wb33DstSelLo d, { r with dstLo := d })]

/-- The operations of 41_register_read.md and the word and long reads. -/
def isBusRead (i : Instr) : Bool := (encode 0 defaultLayout i).1.extractLsb' 28 4 == 0#4

/-- A byte, word or long bus write. -/
def isBusWrite (i : Instr) : Bool := (encode 0 defaultLayout i).1.extractLsb' 28 4 == 1#4

/-- A reset (70 R1000, R1001). -/
def isReset (i : Instr) : Bool := match i with
  | .resetCold | .resetWarm => true
  | _ => false

/-- A restore (44 R831). -/
def isRestore (i : Instr) : Bool := match i with
  | .restore _ => true
  | _ => false

/-- An oscillator fire (42 R613, R614). -/
def isFire (i : Instr) : Bool := match i with
  | .fireA _ | .fireB _ => true
  | _ => false

/-- A host drain (44 R800). -/
def isDrain (i : Instr) : Bool := match i with
  | .drain _ => true
  | _ => false

/-- A microphone feed (44 R810). -/
def isFeed (i : Instr) : Bool := match i with
  | .mic _ => true
  | _ => false

/-- A byte write at offset `o` recomputes the clock (42 R609). -/
def recomputesAt (l : Layout) (o : Offset) : Bool := rowAt l o == 0x20 || rowAt l o == 0x21 || rowAt l o == 0x35

/-- The bus writes that recompute the clock (42 R609): of the three registers, and the wide writes that reach one. -/
def mayRecompute (l : Layout) (i : Instr) : Bool := match i with
  | .wb20TrackControl _ | .wb21SoundMode _ | .wb35IntDivider _ => true
  | .wwEven o _ => recomputesAt l o || recomputesAt l (o + 1)
  | .wlEven o _ => recomputesAt l o || recomputesAt l (o + 1) || recomputesAt l (o + 2) || recomputesAt l (o + 3)
  | _ => false

/-! ### The rules' own tables, written out for the claims -/

/-- The constraints of 00_scope.md R12, one by one. -/
def MeetsR12 (p : Params) : Prop :=
  (∀ r ∈ p.rateLegacy.toList ++ p.rateA.toList ++ p.rateB.toList,
    f64IsFinite r = true ∧ 0 < f64Units r ∧
      (f64IsInf p.cycleFreq = true ∧ p.cycleFreq.msb = false ∨
        f64IsFinite p.cycleFreq = true ∧ 8 * f64Units r ≤ f64Units p.cycleFreq)) ∧
  f64IsFinite p.hostRate = true ∧ 0 < f64Units p.hostRate ∧ 1 ≤ p.dacCap ∧ 1 ≤ p.adcCap

/-- No two of the fields, each a lowest bit and a width, share a bit. -/
def BitsApart (l : List (Nat × Nat)) : Prop := l.Pairwise (fun f g => f.1 + f.2 ≤ g.1 ∨ g.1 + g.2 ≤ f.1)

/-- What the layout table must meet (notes/assumptions/3.md): every row of the map at an offset of its own, the fields of
a register (each a lowest bit and a width) on bits of their own, and codes that differ. -/
structure LayoutOk (l : Layout) : Prop where
  offsets : l.offsets.toList.Nodup
  intEnable : [l.playMfp, l.recMfp, l.playTimerA, l.recTimerA].Nodup
  dmaControl : [l.playRun, l.playLoop, l.recRun, l.recLoop, l.dmaSelect].Nodup
  trackControl : BitsApart [(l.playTracks, 2), (l.trackMonitored, 2)]
  soundMode : BitsApart [(l.steIndex, 2), (l.is16Bit, 1), (l.mono, 1)]
  source : BitsApart [(l.srcDspTxConnect, 1), (l.srcDspTxClock, 2), (l.srcDspTxHandshakeOff, 1),
    (l.srcPlayOtherDest, 1), (l.srcPlayClock, 2), (l.srcPlayHandshakeOff, 1)]
  destination : BitsApart [(l.dstDacSource, 2), (l.dstDspRxConnect, 1), (l.dstDspRxSource, 2),
    (l.dstDspRxHandshakeOff, 1), (l.dstRecOtherSource, 1), (l.dstRecSource, 2), (l.dstRecHandshakeOff, 1)]
  sourceCodes : [l.codePlay, l.codeDspTx, l.codeAdc].Nodup
  clockCodes : l.clockA ≠ l.clockB

/-- What every instance must meet: R12, and a layout table that is one. -/
def ParamsOk (p : Params) : Prop := MeetsR12 p ∧ LayoutOk p.layout

/-- 30_encoding.md R334: reserved class, size or code, or a must-be-zero bit set (`BadDescriptor`, 60_exceptions.md R902). -/
def BadBits (w : BitVec 32) : Prop :=
  let cls := (w.extractLsb' 28 4).toNat
  let code := (w.extractLsb' 0 8).toNat
  let bus := cls = 0 ∨ cls = 1
  3 ≤ cls ∨
  bus ∧ (w.extractLsb' 26 2).toNat = 3 ∨
  bus ∧ w.extractLsb' 24 2 ≠ 0 ∨
  cls = 2 ∧ w.extractLsb' 8 20 ≠ 0 ∨
  cls = 2 ∧ (code = 0 ∨ 0x0B ≤ code)

/-- 30 R334: a bus address outside the window (`OutsideWindow`, 60 R902). -/
def AddressOutside (base : Addr) (w : BitVec 32) : Prop :=
  let addr := (w.extractLsb' 0 24).toNat
  (w.extractLsb' 28 4).toNat ≤ 1 ∧ (addr < base.toNat ∨ base.toNat + 0x3F < addr)

/-- 30 R334: a word or long at an odd address (`Misaligned`, 60 R902, R903). -/
def OddWide (w : BitVec 32) : Prop :=
  let size := (w.extractLsb' 26 2).toNat
  (w.extractLsb' 28 4).toNat ≤ 1 ∧ (size = 1 ∨ size = 2) ∧ (w.extractLsb' 0 24).toNat % 2 = 1

/-- 30 R334: a word or long that runs past offset 0x3F (`OutsideWindow`, 60 R902). -/
def PastTheEnd (base : Addr) (w : BitVec 32) : Prop :=
  let size := (w.extractLsb' 26 2).toNat
  let addr := (w.extractLsb' 0 24).toNat
  (w.extractLsb' 28 4).toNat ≤ 1 ∧
    (size = 1 ∧ base.toNat + 0x3F < addr + 1 ∨ size = 2 ∧ base.toNat + 0x3F < addr + 3)

/-- The reserved and illegal descriptors of 30 R334, in its order. -/
def IllegalDescriptor (base : Addr) (w : BitVec 32) : Prop :=
  BadBits w ∨ AddressOutside base w ∨ OddWide w ∨ PastTheEnd base w

/-- The operand is of the kind 30 R330 and R333 give the descriptor. -/
def OperandFits (w : BitVec 32) (operand : Operand) : Prop :=
  let cls := (w.extractLsb' 28 4).toNat
  let size := (w.extractLsb' 26 2).toNat
  let code := (w.extractLsb' 0 8).toNat
  match operand with
  | .none => cls = 0 ∨ cls = 2 ∧ code ∈ [0x03, 0x04, 0x07, 0x08, 0x09]
  | .byte _ => cls = 1 ∧ size = 0
  | .word _ => cls = 1 ∧ size = 1
  | .long _ => cls = 1 ∧ size = 2
  | .epoch _ => cls = 2 ∧ code ∈ [0x01, 0x02]
  | .pairs _ => cls = 2 ∧ code ∈ [0x05, 0x06]
  | .image _ => cls = 2 ∧ code = 0x0A

/-- `A24(h, m, l)` of 30_encoding.md R317, as it is written there. -/
def a24 (h m l : Byte) : Addr :=
  (h.setWidth 24 <<< 16) ||| (m.setWidth 24 <<< 8) ||| (l &&& 0xFE#8).setWidth 24

/-- `rate(X)` of 42_clock_scheduler.md R601, by the tables' own indices. -/
def tableRate (p : Params) (divider : BitVec 4) (ste : BitVec 2) (x : OscId) : Binary64 :=
  if divider.toNat = 0 then p.rateLegacy.toList.getD ste.toNat f64Zero
  else
    match x with
    | .a => p.rateA.toList.getD (divider.toNat - 1) f64Zero
    | .b => p.rateB.toList.getD (divider.toNat - 1) f64Zero

/-- The mute predicate of 42 R607. -/
def mutedByTable (divider : BitVec 4) (ste : BitVec 2) : Bool :=
  decide (divider.toNat = 0 ∧ ste.toNat = 0 ∨ divider.toNat ∈ [6, 8, 10, 12, 13, 14, 15])

/-- An oscillator after `Recompute()` (42 R606, R608). -/
def recomputedOsc (p : Params) (rate : Binary64) (tracks : Nat) (o : Osc) : Osc where
  cpt := fdiv (fdiv (fdiv p.cycleFreq rate) (f64 tracks)) f64Two
  acc := if p.accResetOnRecalc then f64Zero else o.acc
  consumed := if p.accResetOnRecalc then 0 else o.consumed

/-- A block after `Recompute()` (42 R608). -/
def recomputed (p : Params) (b : Block) : Block :=
  { b with
    oscA := recomputedOsc p (tableRate p b.internalFrequencyDivider b.steFrequencyIndex .a) b.playTracks b.oscA
    oscB := recomputedOsc p (tableRate p b.internalFrequencyDivider b.steFrequencyIndex .b) b.playTracks b.oscB
    isDacMuted := mutedByTable b.internalFrequencyDivider b.steFrequencyIndex }

/-- A channel after `RunEdge(ch, run)` (40_register_write.md R402, 43_transfer_engine.md R731 to R733). -/
def edgeChannel (run : Bool) (start stop : Addr) (c : DmaChannel) : DmaChannel :=
  if run && !c.isRunning then
    { c with
      frameStart := start, frameEnd := stop, frameLen := stop - start, frameCounter := 0, slot := 0
      isRunning := true }
  else if !run && c.isRunning then { c with isRunning := false, frameCounter := 0 }
  else c

/-- What `RunEdge(ch, run)` records: the warning of a degenerate frame that starts (43 R731). -/
def edgeEvents (ch : Chan) (run : Bool) (start stop : Addr) (c : DmaChannel) : List Event :=
  if run && !c.isRunning && decide (stop.toNat ≤ start.toNat) then [.logDegenerateFrame ch] else []

/-- `cpt` in the reset column of 10_state.md R129. -/
def resetCpt (p : Params) : Binary64 := fdiv (fdiv (fdiv p.cycleFreq p.rateLegacy[0]) f64One) f64Two

/-- A stopped channel as the reset column of R129 gives it, but for its connectivity flags. -/
def resetChannel (connected gated : Bool) : DmaChannel where
  frameStart := 0
  frameEnd := 0
  frameLen := 0
  frameCounter := 0
  isRunning := false
  loopMode := false
  slot := 0
  connectedToCodec := connected
  connectedToDsp := connected
  connectedToDma := connected
  connectedToDspHandshake := gated
  handshakeFrame := false
  timerAInterrupt := false
  mfpInterrupt15 := false

/-- A DSP port as the reset column of R129 gives it, but for its connectivity flags. -/
def resetPort (connected : Bool) : DspPort where
  connectedToCodec := connected
  connectedToDsp := connected
  connectedToDma := connected
  connectedToDmaHandshake := connected
  isTristated := true
  isHandshakeMode := true
  wordCount := 0

/-- The reset column of R129, with the new epoch. A destination field of the zero selectors names source 0b00; in the
default layout that is DMA-play, so its flags are true and the other sources' false. -/
def resetTable (p : Params) (epoch : Nat) : Block where
  raw := { intEnable := 0, dmaControl := 0, startHi := 0, startMid := 0, startLo := 0, countHi := 0, countMid := 0,
           countLo := 0, endHi := 0, endMid := 0, endLo := 0, trackControl := 0, soundMode := 0, srcHi := 0,
           srcLo := 0, dstHi := 0, dstLo := 0, extDivider := 0, intDivider := 0, recTracks := 0, codecInput := 0,
           adcInput := 0, gain := 0, atten0 := 0, atten1 := 0 }
  dmaSelected := false
  playTracks := 1
  recordTracks := 1
  trackMonitored := 0
  is16Bit := false
  isStereo := true
  steFrequencyIndex := 0
  internalFrequencyDivider := 0
  dspXmitFreqSel := 0
  dmaPlayFreqSel := 0
  isDacMuted := true
  latchedStartPlay := 0
  latchedStartRec := 0
  latchedEndPlay := 0
  latchedEndRec := 0
  oscA := { cpt := resetCpt p, acc := resetCpt p, consumed := ffloor (resetCpt p) }
  oscB := { cpt := resetCpt p, acc := resetCpt p, consumed := ffloor (resetCpt p) }
  epoch := epoch
  playDma := resetChannel (p.layout.codePlay == 0b00#2) (p.layout.codePlay == 0b00#2)
  recDma := resetChannel false (p.layout.codeDspTx == 0b00#2)
  dspTx := resetPort (p.layout.codeDspTx == 0b00#2)
  dspRx := resetPort false
  adc := {
    connectedToCodec := p.layout.codeAdc == 0b00#2
    connectedToDsp := p.layout.codeAdc == 0b00#2
    connectedToDma := p.layout.codeAdc == 0b00#2
    side := .left }
  dac := { left := List.replicate p.dacCap 0, right := List.replicate p.dacCap 0, wr := 0, rd := 0 }
  dacPending := f64Zero
  adcBuf := { left := List.replicate p.adcCap 0, right := List.replicate p.adcCap 0, wr := 0, rd := 0 }

/-- `S` and `D`, the selector words (30_encoding.md R307, R308). -/
def selS (r : RawRegs) : BitVec 16 := r.srcHi ++ r.srcLo
def selD (r : RawRegs) : BitVec 16 := r.dstHi ++ r.dstLo

/-- The play handshake gate of 40_register_write.md R419, by the layout table. -/
def gateOfPlay (l : Layout) (r : RawRegs) : Bool :=
  !(selS r).getLsbD l.srcPlayOtherDest && !(selS r).getLsbD l.srcPlayHandshakeOff &&
    (selD r).extractLsb' l.dstDspRxSource 2 == l.codePlay

/-- The DSP-transmit to DMA-record handshake wiring of 40 R419, by the layout table. -/
def gateOfRecord (l : Layout) (r : RawRegs) : Bool :=
  !(selD r).getLsbD l.dstRecOtherSource && !(selD r).getLsbD l.dstRecHandshakeOff &&
    (selD r).extractLsb' l.dstRecSource 2 == l.codeDspTx

/-- The invariants of 10_state.md that an image must meet, one by one (44_host_bridge.md R832), with the even bounds of
20_memory.md R207; the fields of the registers by the layout table. -/
structure GoodImage (p : Params) (b : Block) : Prop where
  slots : b.playDma.slot < 8 ∧ b.recDma.slot < 8 ∧ b.dspTx.wordCount < 8 ∧ b.dspRx.wordCount < 8
  dacSize : b.dac.left.length = p.dacCap ∧ b.dac.right.length = p.dacCap
  adcSize : b.adcBuf.left.length = p.adcCap ∧ b.adcBuf.right.length = p.adcCap
  dacPositions : b.dac.wr < p.dacCap ∧ b.dac.rd < p.dacCap
  adcPositions : b.adcBuf.wr < p.adcCap ∧ b.adcBuf.rd < p.adcCap
  startsEven : b.latchedStartPlay.toNat % 2 = 0 ∧ b.latchedStartRec.toNat % 2 = 0
  stopsEven : b.latchedEndPlay.toNat % 2 = 0 ∧ b.latchedEndRec.toNat % 2 = 0
  playEven : b.playDma.frameStart.toNat % 2 = 0 ∧ b.playDma.frameEnd.toNat % 2 = 0 ∧ b.playDma.frameLen.toNat % 2 = 0
  recEven : b.recDma.frameStart.toNat % 2 = 0 ∧ b.recDma.frameEnd.toNat % 2 = 0 ∧ b.recDma.frameLen.toNat % 2 = 0
  playRun : b.playDma.isRunning = b.raw.dmaControl.getLsbD p.layout.playRun
  recRun : b.recDma.isRunning = b.raw.dmaControl.getLsbD p.layout.recRun
  playInterrupts : b.playDma.mfpInterrupt15 = b.raw.intEnable.getLsbD p.layout.playMfp ∧
    b.playDma.timerAInterrupt = b.raw.intEnable.getLsbD p.layout.playTimerA
  recInterrupts : b.recDma.mfpInterrupt15 = b.raw.intEnable.getLsbD p.layout.recMfp ∧
    b.recDma.timerAInterrupt = b.raw.intEnable.getLsbD p.layout.recTimerA
  loops : b.playDma.loopMode = b.raw.dmaControl.getLsbD p.layout.playLoop ∧
    b.recDma.loopMode = b.raw.dmaControl.getLsbD p.layout.recLoop
  selected : b.dmaSelected = b.raw.dmaControl.getLsbD p.layout.dmaSelect
  tracks : b.playTracks = (b.raw.trackControl.extractLsb' p.layout.playTracks 2).toNat + 1 ∧
    b.recordTracks = (b.raw.recTracks.extractLsb' p.layout.recTracks 2).toNat + 1
  monitored : b.trackMonitored = b.raw.trackControl.extractLsb' p.layout.trackMonitored 2
  format : b.is16Bit = b.raw.soundMode.getLsbD p.layout.is16Bit ∧ b.isStereo = !b.raw.soundMode.getLsbD p.layout.mono
  rateIndices : b.steFrequencyIndex = b.raw.soundMode.extractLsb' p.layout.steIndex 2 ∧
    b.internalFrequencyDivider = b.raw.intDivider.extractLsb' p.layout.intDivider 4
  clockCodes : b.dspXmitFreqSel = (selS b.raw).extractLsb' p.layout.srcDspTxClock 2 ∧
    b.dmaPlayFreqSel = (selS b.raw).extractLsb' p.layout.srcPlayClock 2
  dspTxBus : b.dspTx.isTristated = !(selS b.raw).getLsbD p.layout.srcDspTxConnect ∧
    b.dspTx.isHandshakeMode = !(selS b.raw).getLsbD p.layout.srcDspTxHandshakeOff
  dspRxBus : b.dspRx.isTristated = !(selD b.raw).getLsbD p.layout.dstDspRxConnect ∧
    b.dspRx.isHandshakeMode = !(selD b.raw).getLsbD p.layout.dstDspRxHandshakeOff
  toCodec : b.playDma.connectedToCodec = ((selD b.raw).extractLsb' p.layout.dstDacSource 2 == p.layout.codePlay) ∧
    b.dspTx.connectedToCodec = ((selD b.raw).extractLsb' p.layout.dstDacSource 2 == p.layout.codeDspTx) ∧
    b.adc.connectedToCodec = ((selD b.raw).extractLsb' p.layout.dstDacSource 2 == p.layout.codeAdc)
  toDsp : b.playDma.connectedToDsp = ((selD b.raw).extractLsb' p.layout.dstDspRxSource 2 == p.layout.codePlay) ∧
    b.dspTx.connectedToDsp = ((selD b.raw).extractLsb' p.layout.dstDspRxSource 2 == p.layout.codeDspTx) ∧
    b.adc.connectedToDsp = ((selD b.raw).extractLsb' p.layout.dstDspRxSource 2 == p.layout.codeAdc)
  toDma : b.playDma.connectedToDma = ((selD b.raw).extractLsb' p.layout.dstRecSource 2 == p.layout.codePlay) ∧
    b.dspTx.connectedToDma = ((selD b.raw).extractLsb' p.layout.dstRecSource 2 == p.layout.codeDspTx) ∧
    b.adc.connectedToDma = ((selD b.raw).extractLsb' p.layout.dstRecSource 2 == p.layout.codeAdc)
  playGate : b.playDma.connectedToDspHandshake = gateOfPlay p.layout b.raw
  recGate : b.recDma.connectedToDspHandshake = gateOfRecord p.layout b.raw
  recGateOfTx : b.dspTx.connectedToDmaHandshake = b.recDma.connectedToDspHandshake
  recUnused : b.recDma.connectedToCodec = false ∧ b.recDma.connectedToDsp = false ∧ b.recDma.connectedToDma = false
  rxUnused : b.dspRx.connectedToCodec = false ∧ b.dspRx.connectedToDsp = false ∧ b.dspRx.connectedToDma = false ∧
    b.dspRx.connectedToDmaHandshake = false
  dacMuted : b.isDacMuted = mutedByTable b.internalFrequencyDivider b.steFrequencyIndex
  cptA : b.oscA.cpt = fdiv (fdiv (fdiv p.cycleFreq
    (tableRate p b.internalFrequencyDivider b.steFrequencyIndex .a)) (f64 b.playTracks)) f64Two
  cptB : b.oscB.cpt = fdiv (fdiv (fdiv p.cycleFreq
    (tableRate p b.internalFrequencyDivider b.steFrequencyIndex .b)) (f64 b.playTracks)) f64Two
  counted : b.oscA.consumed = ffloor b.oscA.acc ∧ b.oscB.consumed = ffloor b.oscB.acc
  playLength : b.playDma.frameLen = b.playDma.frameEnd - b.playDma.frameStart
  recLength : b.recDma.frameLen = b.recDma.frameEnd - b.recDma.frameStart
  playCounter : b.playDma.isRunning = true → b.playDma.frameCounter < b.playDma.frameLen.toNat + 2
  recCounter : b.recDma.isRunning = true → b.recDma.frameCounter < b.recDma.frameLen.toNat + 2

/-! ### Sequences and records -/

/-- Go on with `k` if the operation gave a next state. -/
def thenDo (r : Out) (k : State → Out) : Out :=
  match r with
  | .next t => k t
  | .fault f => .fault f
  | .refused e => .refused e

/-- Run operations one after the other. -/
def runAll (l : List Instr) (s : State) : Out :=
  match l with
  | [] => .next s
  | i :: rest => thenDo (exec i s) (runAll rest)

/-- The interrupt pulses of a list of events, in order (60 R906). -/
def pulses (l : List Event) : List IrqPath :=
  l.filterMap (fun e => match e with
    | .pulseIrq path => some path
    | _ => none)

/-- The delays scheduled for an oscillator in a list of events, in order (42 R610). -/
def delays (x : OscId) (l : List Event) : List Nat :=
  l.filterMap (fun e => match e with
    | .scheduleRelative d y _ => if y = x then some d else none
    | _ => none)

/-- A fire of an oscillator with the current epoch (30_encoding.md R337, `tick X`). -/
def tickOf (x : OscId) (s : State) : Out := exec (tick x s) s

/-- `n` fires of an oscillator, one after the other. -/
def ticksOf (x : OscId) (n : Nat) (s : State) : Out :=
  match n with
  | 0 => .next s
  | n + 1 => thenDo (tickOf x s) (ticksOf x n)

/-- The pulses one end of frame makes: GPIO, then TIMER_A, each if enabled (43 R730, 60 R908). -/
def framePulses (c : DmaChannel) : List IrqPath :=
  (if c.mfpInterrupt15 then [.gpio] else []) ++ (if c.timerAInterrupt then [.timerA] else [])

/-- A play channel that streams a frame of `len` bytes, `inc` bytes a tick, from its first byte: running, not gated by the
DSP, 16-bit or stereo, its frame the latched one. -/
structure Streams (s : State) (inc len : Nat) : Prop where
  running : s.block.playDma.isRunning = true
  ungated : s.block.playDma.connectedToDspHandshake = false
  atStart : s.block.playDma.frameCounter = 0
  start : s.block.playDma.frameStart = s.block.latchedStartPlay
  stop : s.block.playDma.frameEnd = s.block.latchedEndPlay
  length : s.block.playDma.frameLen = s.block.playDma.frameEnd - s.block.playDma.frameStart
  bytes : s.block.playDma.frameLen.toNat = len
  nonempty : 0 < len
  format : s.block.is16Bit = true ∧ inc = 2 ∨ s.block.is16Bit = false ∧ s.block.isStereo = true ∧ inc = 1
  whole : len % inc = 0

end Sys2Proof.Machine
end

