-- ==== Sys2Proof/Certificates/Slice0/Obligations.lean ====
section
/-! DEFINITION. The claims, one `Obligations.<Name>` each, from the numbered rules of the spec. -/

section

open Sys2Proof Sys2Proof.Machine

/-! ### Operations: encoding, decoding, refusing, stepping -/

/-- 30_encoding.md R330 to R335: at every base and in every layout table, decoding what an operation encodes to gives it
back, with every operand. -/
def Obligations.DecodeOfEncode : Prop :=
  ∀ (base : Addr) (l : Layout) (i : Instr), LayoutOk l → wellFormed base l i = true →
    decode base l (encode base l i).1 (encode base l i).2 = .ok i

/-- 30 R330 to R335: what a descriptor and operand decode to is well formed and encodes back to the same descriptor and
operand, so no bit of either is dropped and no other descriptor names the operation. -/
def Obligations.EncodeOfDecode : Prop :=
  ∀ (base : Addr) (l : Layout) (w : BitVec 32) (operand : Operand) (i : Instr), LayoutOk l →
    decode base l w operand = .ok i → encode base l i = (w, operand) ∧ wellFormed base l i = true

/-- 30 R334, read the other way: a descriptor that R334 does not list names an operation (with an operand of its kind). -/
def Obligations.LegalDescriptorsDecode : Prop :=
  ∀ (base : Addr) (l : Layout) (w : BitVec 32), base.toNat + 64 ≤ 2 ^ 24 → ¬IllegalDescriptor base w →
    ∃ operand i, decode base l w operand = .ok i

/-- 30 R334 with 60_exceptions.md R902, R903: every descriptor R334 lists is refused, in every state and with every operand,
and for the reason R902 gives its case. Which reason is given where two cases hold is the model's choice
(notes/assumptions/10.md), and so is the reason for an operand of the wrong kind (notes/assumptions/11.md). -/
def Obligations.ReservedDescriptorsRefused : Prop :=
  ∀ (s : State) (op : Operation) (rest : List Operation), s.stream = op :: rest →
    let w := op.descriptor
    let base := s.params.regBase
    (IllegalDescriptor base w → ∃ r, step s = .refused r) ∧
    (BadBits w → step s = .refused .badDescriptor) ∧
    (¬BadBits w → AddressOutside base w → step s = .refused .outsideWindow) ∧
    (¬BadBits w → ¬AddressOutside base w → OperandFits w op.operand →
      (OddWide w → Ready s → step s = .refused .misaligned) ∧
      (¬OddWide w → PastTheEnd base w → step s = .refused .outsideWindow)) ∧
    (¬BadBits w → ¬AddressOutside base w → ¬OperandFits w op.operand → step s = .refused .operandMismatch)

/-- The encodings of 30 R330, R331 and R333 at the default base, written out bit by bit, and the default register map
(R301): every row at its own offset. -/
def Obligations.SpecWordsDecode : Prop :=
  decode 0xFF8900 defaultLayout 0b00010000111111111000100100000001#32 (.byte 0x03) = .ok (.wb01DmaControl 0x03) ∧
  decode 0xFF8900 defaultLayout 0b00000000111111111000100100001001#32 .none = .ok .rb09FrameCountHi ∧
  decode 0xFF8900 defaultLayout 0b00010100111111111000100100110000#32 (.word 0x1234) = .ok (.wwEven 0x30 0x1234) ∧
  decode 0xFF8900 defaultLayout 0b00011000111111111000100100110000#32 (.long 0x12345678) = .ok (.wlEven 0x30 0x12345678) ∧
  decode 0xFF8900 defaultLayout 0b00000100111111111000100100110001#32 .none = .ok (.rwOdd 0x31) ∧
  decode 0xFF8900 defaultLayout 0b00100000000000000000000000000001#32 (.epoch 7) = .ok (.fireA 7) ∧
  decode 0xFF8900 defaultLayout 0b00100000000000000000000000000111#32 .none = .ok .resetCold ∧
  decode 0xFF8900 defaultLayout 0b00100000000000000000000000001011#32 .none = .error .badDescriptor ∧
  decode 0xFF8900 defaultLayout 0b00001100111111111000100100000000#32 .none = .error .badDescriptor ∧
  decode 0xFF8900 defaultLayout 0b00000000111111111000100101000000#32 .none = .error .outsideWindow ∧
  ∀ row : Offset, offsetOf defaultLayout row = row

/-- 10_state.md R101: a step takes the next operation of the stream and runs it. What other agents did before it, which
the model lets come with the stream entry (notes/assumptions/4.md, 5.md), is there first. With an empty stream the block
waits (notes/assumptions/1.md). -/
def Obligations.StepRunsTheDecodedOperation : Prop :=
  (∀ (s : State) (op : Operation) (rest : List Operation) (i : Instr), s.stream = op :: rest →
    decode s.params.regBase s.params.layout op.descriptor op.operand = .ok i →
    step s = exec i { s with
      stream := rest
      memory := memStores s.memory op.stores
      dspWords := s.dspWords ++ op.dspWords }) ∧
  ∀ s : State, s.stream = [] → step s = .next s

/-- 00_scope.md R12 with 60_exceptions.md R902: an instance whose parameters break a constraint refuses every operation, as
BadParameters, which R902 names. That this reason comes before NotReset and the operation's own (notes/assumptions/10.md),
that the constraint is compared exactly and an infinite CYCLE_FREQ meets it (notes/assumptions/13.md), and what a layout
table must meet (notes/assumptions/3.md) are the model's choices. -/
def Obligations.BadParametersRefuseEverything : Prop :=
  ∀ (s : State) (i : Instr), ¬ParamsOk s.params → exec i s = .refused .badParameters

/-- 70_reset_and_hazards.md R1005: before the first reset every operation but a reset is refused; `epoch` is 0 at power-on,
and a reset moves it on and ends the refusals. -/
def Obligations.NotResetRefusesAllButReset : Prop :=
  (∀ (s : State) (i : Instr), ParamsOk s.params → s.hasReset = false → isReset i = false →
    exec i s = .refused .notReset) ∧
  (∀ (p : Params) (b : Block), (State.powerOn p b).hasReset = false ∧ (State.powerOn p b).block.epoch = 0) ∧
  (∀ (s t : State) (i : Instr), isReset i = true → exec i s = .next t →
    t.hasReset = true ∧ t.block.epoch = s.block.epoch + 1)

/-- 60 R903: a word or long access at an odd address is refused as misaligned, whichever form names it. -/
def Obligations.OddAccessesAreRefused : Prop :=
  ∀ (s : State) (o : Offset), Ready s →
    (∀ d, exec (.wwOdd o d) s = .refused .misaligned) ∧
    (∀ d, exec (.wlOdd o d) s = .refused .misaligned) ∧
    exec (.rwOdd o) s = .refused .misaligned ∧
    exec (.rlOdd o) s = .refused .misaligned ∧
    ((s.params.regBase.toNat + o.toNat) % 2 = 1 →
      (∀ d, exec (.wwEven o d) s = .refused .misaligned) ∧
      (∀ d, exec (.wlEven o d) s = .refused .misaligned) ∧
      exec (.rwEven o) s = .refused .misaligned ∧
      exec (.rlEven o) s = .refused .misaligned)

/-! ### Reset -/

/-- 70 R1000, R1001, R1003, 10 R129: either reset leaves the reset column of R129 with the next epoch, records the two
schedules, and touches nothing else. (By the default codes a zero selector names DMA-play.) The guard of 42 R610 does not
fire where the reset's `cpt` is finite (notes/assumptions/20.md). -/
def Obligations.ResetGivesTheResetTable : Prop :=
  ∀ (s : State) (i : Instr), ParamsOk s.params → f64IsFinite (resetCpt s.params) = true → isReset i = true →
    exec i s = .next { s with
      block := resetTable s.params (s.block.epoch + 1)
      hasReset := true
      events := s.events ++
        [.scheduleRelative (ffloor (resetCpt s.params)).toNat .a (s.block.epoch + 1),
         .scheduleRelative (ffloor (resetCpt s.params)).toNat .b (s.block.epoch + 1)] } ∧
    defaultLayout.codePlay = 0b00#2 ∧ defaultLayout.codeDspTx = 0b01#2 ∧ defaultLayout.codeAdc = 0b11#2

/-- 70 R1005: the first reset after power-on, whatever the block was, gives the model's reset state, with `epoch` 1. -/
def Obligations.FirstResetGivesTheResetState : Prop :=
  ∀ (p : Params) (b : Block), ParamsOk p → f64IsFinite (resetCpt p) = true →
    exec .resetCold (State.powerOn p b) = .next (State.resetWith p) ∧ (State.resetWith p).block.epoch = 1

/-- The invariant holds right after reset, for all parameters (and so of `State.reset`, whose parameters are the model's
example values, notes/assumptions/2.md). -/
def Obligations.InvariantAtReset : Prop :=
  (∀ p : Params, ParamsOk p → Inv (State.resetWith p)) ∧ Inv State.reset

/-- Every step keeps the invariant: memory stays canonical, and the block keeps every invariant of 10_state.md that
44_host_bridge.md R832 lists, and the even frame addresses of 20_memory.md R207: the latched ones, the active `frameStart`
and `frameEnd`, and so `frameLen`. That RESTORE asks the active ones to be even is the model's reading
(notes/assumptions/17.md). -/
def Obligations.EveryStepKeepsTheInvariant : Prop :=
  ∀ s t : State, Inv s → step s = .next t → Inv t

/-- 42_clock_scheduler.md R615: a fire with another epoch's tag is only acknowledged. -/
def Obligations.StaleFiresOnlyAcknowledge : Prop :=
  ∀ (s : State) (e : Nat), Ready s → e ≠ s.block.epoch →
    exec (.fireA e) s = .next { s with events := s.events ++ [.acknowledge] } ∧
    exec (.fireB e) s = .next { s with events := s.events ++ [.acknowledge] }

/-! ### Register writes -/

/-- 40_register_write.md R429 to R431: a write to the codec status or to an unassigned offset is discarded. -/
def Obligations.DiscardedWritesChangeNothing : Prop :=
  ∀ (s : State) (d : Byte) (i : Instr), Ready s → i ∈ discardedWrites d → exec i s = .next s

/-- 40 R406, R407, R421, R424 to R428: these writes store their byte and do nothing else. -/
def Obligations.PassThroughWritesOnlyStore : Prop :=
  ∀ (s : State) (d : Byte) (i : Instr) (r : RawRegs), Ready s → (i, r) ∈ storeOnlyWrites d s.block.raw →
    exec i s = .next { s with block := { s.block with raw := r } }

/-- 40 R401, R423 with 30 R302, R314: the interrupt-enable byte and the record-track byte, by the layout table, and the
default places of their fields. -/
def Obligations.InterruptEnableAndRecordTrackWrites : Prop :=
  (∀ (s : State) (d : Byte), Ready s →
    let l := s.params.layout
    exec (.wb00IntEnable d) s = .next { s with block := { s.block with
      raw := { s.block.raw with intEnable := d }
      playDma := { s.block.playDma with
        mfpInterrupt15 := d.getLsbD l.playMfp, timerAInterrupt := d.getLsbD l.playTimerA }
      recDma := { s.block.recDma with
        mfpInterrupt15 := d.getLsbD l.recMfp, timerAInterrupt := d.getLsbD l.recTimerA } } } ∧
    exec (.wb36RecTracks d) s = .next { s with block := { s.block with
      raw := { s.block.raw with recTracks := d }
      recordTracks := (d.extractLsb' l.recTracks 2).toNat + 1 } }) ∧
  defaultLayout.playMfp = 0 ∧ defaultLayout.recMfp = 1 ∧ defaultLayout.playTimerA = 2 ∧ defaultLayout.recTimerA = 3 ∧
  defaultLayout.recTracks = 0

/-- 40 R402 with 30 R303 and 43_transfer_engine.md R731 to R733: select, run edges and loop flags, by the layout table, and
the default places of the five bits. -/
def Obligations.DmaControlWrite : Prop :=
  (∀ (s : State) (d : Byte), Ready s →
    let l := s.params.layout
    exec (.wb01DmaControl d) s = .next { s with
      block := { s.block with
        raw := { s.block.raw with dmaControl := d }
        dmaSelected := d.getLsbD l.dmaSelect
        playDma := { edgeChannel (d.getLsbD l.playRun) s.block.latchedStartPlay s.block.latchedEndPlay s.block.playDma with
          loopMode := d.getLsbD l.playLoop }
        recDma := { edgeChannel (d.getLsbD l.recRun) s.block.latchedStartRec s.block.latchedEndRec s.block.recDma with
          loopMode := d.getLsbD l.recLoop } }
      events := s.events ++
        edgeEvents .play (d.getLsbD l.playRun) s.block.latchedStartPlay s.block.latchedEndPlay s.block.playDma ++
        edgeEvents .record (d.getLsbD l.recRun) s.block.latchedStartRec s.block.latchedEndRec s.block.recDma }) ∧
  defaultLayout.playRun = 0 ∧ defaultLayout.playLoop = 1 ∧ defaultLayout.recRun = 4 ∧ defaultLayout.recLoop = 5 ∧
  defaultLayout.dmaSelect = 7

/-- 40 R403 to R405, R409 to R411, R436, R437: a frame address byte is stored and the selected channel's address latched
anew from all three bytes, bit 0 forced to 0. -/
def Obligations.FrameAddressWritesLatch : Prop :=
  ∀ (s : State) (d : Byte) (i : Instr) (r : RawRegs), Ready s →
    ((i, r) ∈ frameStartWrites d s.block.raw →
      exec i s = .next { s with block := { s.block with
        raw := r
        latchedStartPlay := if s.block.dmaSelected then s.block.latchedStartPlay else a24 r.startHi r.startMid r.startLo
        latchedStartRec := if s.block.dmaSelected then a24 r.startHi r.startMid r.startLo else s.block.latchedStartRec } }) ∧
    ((i, r) ∈ frameEndWrites d s.block.raw →
      exec i s = .next { s with block := { s.block with
        raw := r
        latchedEndPlay := if s.block.dmaSelected then s.block.latchedEndPlay else a24 r.endHi r.endMid r.endLo
        latchedEndRec := if s.block.dmaSelected then a24 r.endHi r.endMid r.endLo else s.block.latchedEndRec } })

/-- 40 R436: after the three bytes, in any order, the selected channel's latch is `A24` of them, and while that channel is
stopped the frame-count registers read it back (41_register_read.md R505). -/
def Obligations.FrameStartInAnyOrder : Prop :=
  ∀ (s : State) (h m l : Byte) (writes : List Instr), Ready s →
    writes.Perm [.wb03FrameStartHi h, .wb05FrameStartMid m, .wb07FrameStartLo l] →
    ∃ t, runAll writes s = .next t ∧
      (s.block.dmaSelected = false → t.block.latchedStartPlay = a24 h m l ∧
        t.block.latchedStartRec = s.block.latchedStartRec) ∧
      (s.block.dmaSelected = true → t.block.latchedStartRec = a24 h m l ∧
        t.block.latchedStartPlay = s.block.latchedStartPlay) ∧
      ((if s.block.dmaSelected then s.block.recDma else s.block.playDma).isRunning = false →
        runAll [.rb09FrameCountHi, .rb0BFrameCountMid, .rb0DFrameCountLo] t =
          .next { t with results := t.results ++ [.byte h, .byte m, .byte (l &&& 0xFE#8)] })

/-- 40 R408: the low frame-counter byte is stored with REC selected or where the parameter says ignore; else the write is
refused. -/
def Obligations.FrameCountLowWrite : Prop :=
  ∀ (s : State) (d : Byte), Ready s →
    (CountLoOpen s → exec (.wb0DFrameCountLo d) s =
      .next { s with block := { s.block with raw := { s.block.raw with countLo := d } } }) ∧
    (¬CountLoOpen s → exec (.wb0DFrameCountLo d) s = .refused .unmodelledFrameCountWrite)

/-- 40 R412, R413, R422 with 30 R305, R306, R313 and 42 R601, R606 to R608: the three writes that recompute the clock,
complete in the write, by the layout table, and the default places of their fields. -/
def Obligations.RecomputingWrites : Prop :=
  (∀ (s : State) (d : Byte), Ready s →
    let l := s.params.layout
    exec (.wb20TrackControl d) s = .next { s with block := recomputed s.params { s.block with
      raw := { s.block.raw with trackControl := d }
      playTracks := (d.extractLsb' l.playTracks 2).toNat + 1
      trackMonitored := d.extractLsb' l.trackMonitored 2 } } ∧
    exec (.wb21SoundMode d) s = .next { s with block := recomputed s.params { s.block with
      raw := { s.block.raw with soundMode := d }
      steFrequencyIndex := d.extractLsb' l.steIndex 2
      is16Bit := d.getLsbD l.is16Bit
      isStereo := !d.getLsbD l.mono } } ∧
    exec (.wb35IntDivider d) s = .next { s with block := recomputed s.params { s.block with
      raw := { s.block.raw with intDivider := d }
      internalFrequencyDivider := d.extractLsb' l.intDivider 4 } }) ∧
  defaultLayout.playTracks = 0 ∧ defaultLayout.trackMonitored = 4 ∧ defaultLayout.steIndex = 0 ∧
  defaultLayout.is16Bit = 6 ∧ defaultLayout.mono = 7 ∧ defaultLayout.intDivider = 0

/-- 40 R414 to R416, R419 with 30 R307: a source selector byte, by the layout table; the default places of the fields of
`S`; and that in the default layout the high byte changes no decoded field. -/
def Obligations.SourceSelectorWrites : Prop :=
  (∀ (s : State) (d : Byte) (i : Instr) (r : RawRegs), Ready s → (i, r) ∈ sourceWrites d s.block.raw →
    let l := s.params.layout
    exec i s = .next { s with block := { s.block with
      raw := r
      dspXmitFreqSel := (r.srcHi ++ r.srcLo).extractLsb' l.srcDspTxClock 2
      dmaPlayFreqSel := (r.srcHi ++ r.srcLo).extractLsb' l.srcPlayClock 2
      dspTx := { s.block.dspTx with
        isTristated := !(r.srcHi ++ r.srcLo).getLsbD l.srcDspTxConnect
        isHandshakeMode := !(r.srcHi ++ r.srcLo).getLsbD l.srcDspTxHandshakeOff
        connectedToDmaHandshake := gateOfRecord l r }
      playDma := { s.block.playDma with connectedToDspHandshake := gateOfPlay l r }
      recDma := { s.block.recDma with connectedToDspHandshake := gateOfRecord l r } } }) ∧
  (defaultLayout.srcDspTxConnect = 7 ∧ defaultLayout.srcDspTxClock = 5 ∧ defaultLayout.srcDspTxHandshakeOff = 4 ∧
    defaultLayout.srcPlayOtherDest = 3 ∧ defaultLayout.srcPlayClock = 1 ∧ defaultLayout.srcPlayHandshakeOff = 0) ∧
  ∀ (s : State) (d : Byte), Ready s → Inv s → s.params.layout = defaultLayout →
    exec (.wb30SrcSelHi d) s = .next { s with block := { s.block with raw := { s.block.raw with srcHi := d } } }

/-- 40 R417 to R420 with 30 R308, R311: a destination selector byte, by the layout table; the default places of the fields
of `D` and the default codes; and that in the default layout only `D[14:13]` of the high byte changes a flag. -/
def Obligations.DestinationSelectorWrites : Prop :=
  (∀ (s : State) (d : Byte) (i : Instr) (r : RawRegs), Ready s → (i, r) ∈ destinationWrites d s.block.raw →
    let l := s.params.layout
    let dacSource := (r.dstHi ++ r.dstLo).extractLsb' l.dstDacSource 2
    let dspSource := (r.dstHi ++ r.dstLo).extractLsb' l.dstDspRxSource 2
    let recSource := (r.dstHi ++ r.dstLo).extractLsb' l.dstRecSource 2
    exec i s = .next { s with block := { s.block with
      raw := r
      playDma := { s.block.playDma with
        connectedToCodec := dacSource == l.codePlay
        connectedToDsp := dspSource == l.codePlay
        connectedToDma := recSource == l.codePlay
        connectedToDspHandshake := gateOfPlay l r }
      dspTx := { s.block.dspTx with
        connectedToCodec := dacSource == l.codeDspTx
        connectedToDsp := dspSource == l.codeDspTx
        connectedToDma := recSource == l.codeDspTx
        connectedToDmaHandshake := gateOfRecord l r }
      recDma := { s.block.recDma with connectedToDspHandshake := gateOfRecord l r }
      adc := { s.block.adc with
        connectedToCodec := dacSource == l.codeAdc
        connectedToDsp := dspSource == l.codeAdc
        connectedToDma := recSource == l.codeAdc }
      dspRx := { s.block.dspRx with
        isTristated := !(r.dstHi ++ r.dstLo).getLsbD l.dstDspRxConnect
        isHandshakeMode := !(r.dstHi ++ r.dstLo).getLsbD l.dstDspRxHandshakeOff } } }) ∧
  (defaultLayout.dstDacSource = 13 ∧ defaultLayout.dstDspRxConnect = 7 ∧ defaultLayout.dstDspRxSource = 5 ∧
    defaultLayout.dstDspRxHandshakeOff = 4 ∧ defaultLayout.dstRecOtherSource = 3 ∧ defaultLayout.dstRecSource = 1 ∧
    defaultLayout.dstRecHandshakeOff = 0 ∧ defaultLayout.codePlay = 0b00#2 ∧ defaultLayout.codeDspTx = 0b01#2 ∧
    defaultLayout.codeAdc = 0b11#2) ∧
  ∀ (s : State) (d : Byte), Ready s → Inv s → s.params.layout = defaultLayout →
    exec (.wb32DstSelHi d) s = .next { s with block := { s.block with
      raw := { s.block.raw with dstHi := d }
      playDma := { s.block.playDma with connectedToCodec := d.extractLsb' 5 2 == 0b00#2 }
      dspTx := { s.block.dspTx with connectedToCodec := d.extractLsb' 5 2 == 0b01#2 }
      adc := { s.block.adc with connectedToCodec := d.extractLsb' 5 2 == 0b11#2 } } }

/-- 30 R331, R332, 60 R902, 40 R408: a word or long write is its byte writes in ascending order, most significant byte
first, each of what the layout table has at its offset, and it is refused when one of them is, with nothing of it done. At
an even address in the window it completes, unless it reaches the low frame-counter byte (0x0D in the default layout) and a
write there is refused: then that is its refusal. -/
def Obligations.WideWritesAreByteWrites : Prop :=
  ∀ (s : State) (o : Offset), Ready s → (s.params.regBase.toNat + o.toNat) % 2 = 0 →
    let at_ := fun k : Offset => byteWriteForm (rowAt s.params.layout (o + k))
    (∀ d : BitVec 16, o.toNat + 2 ≤ 64 → s.params.regBase.toNat + o.toNat + 2 ≤ 2 ^ 24 →
      let bytes := [d.extractLsb' 8 8, d.extractLsb' 0 8]
      exec (.wwEven o d) s = runAll [at_ 0 (d.extractLsb' 8 8), at_ 1 (d.extractLsb' 0 8)] s ∧
      (WideWriteOpen s o bytes → ∃ t, exec (.wwEven o d) s = .next t) ∧
      (¬WideWriteOpen s o bytes → exec (.wwEven o d) s = .refused .unmodelledFrameCountWrite)) ∧
    (∀ d : BitVec 32, o.toNat + 4 ≤ 64 → s.params.regBase.toNat + o.toNat + 4 ≤ 2 ^ 24 →
      let bytes := [d.extractLsb' 24 8, d.extractLsb' 16 8, d.extractLsb' 8 8, d.extractLsb' 0 8]
      exec (.wlEven o d) s =
        runAll [at_ 0 (d.extractLsb' 24 8), at_ 1 (d.extractLsb' 16 8), at_ 2 (d.extractLsb' 8 8),
          at_ 3 (d.extractLsb' 0 8)] s ∧
      (WideWriteOpen s o bytes → ∃ t, exec (.wlEven o d) s = .next t) ∧
      (¬WideWriteOpen s o bytes → exec (.wlEven o d) s = .refused .unmodelledFrameCountWrite))

/-! ### Register reads -/

/-- 41 R501 to R526: these reads return the stored byte and change nothing. -/
def Obligations.StoredByteReads : Prop :=
  ∀ (s : State) (i : Instr) (v : Byte), Ready s → (i, v) ∈ storedReads s.block.raw →
    exec i s = .next { s with results := s.results ++ [.byte v] }

/-- 41 R505, R507 to R509: the frame-count bytes are those of the selected channel's live address. -/
def Obligations.LiveAddressReads : Prop :=
  ∀ s : State, Ready s →
    let c := if s.block.dmaSelected then s.block.recDma else s.block.playDma
    let latched := if s.block.dmaSelected then s.block.latchedStartRec else s.block.latchedStartPlay
    let a : Addr := if c.isRunning then c.frameStart + BitVec.ofNat 24 c.frameCounter else latched
    exec .rb09FrameCountHi s = .next { s with results := s.results ++ [.byte (a.extractLsb' 16 8)] } ∧
    exec .rb0BFrameCountMid s = .next { s with results := s.results ++ [.byte (a.extractLsb' 8 8)] } ∧
    exec .rb0DFrameCountLo s = .next { s with results := s.results ++ [.byte (a.extractLsb' 0 8)] }

/-- 41 R527, R528: the codec status reads as 0x00, always. -/
def Obligations.CodecStatusReadsZero : Prop :=
  ∀ s : State, Ready s →
    exec .rb3CCodecStatusHi s = .next { s with results := s.results ++ [.byte 0x00] } ∧
    exec .rb3DCodecStatusLo s = .next { s with results := s.results ++ [.byte 0x00] }

/-- 41 R529: an unassigned byte reads as a draw, and nothing else changes. The draw is the model's free value
(notes/assumptions/6.md), of which nothing is known. -/
def Obligations.UnassignedReadsAreDraws : Prop :=
  ∀ (s : State) (i : Instr), Ready s → i ∈ unassignedReads →
    exec i s = .next { s with
      draws := s.draws + 1
      results := s.results ++ [.byte (Config.drawByte s.draws)] }

/-- 30 R331, R332: a word or long read is its byte reads in ascending order, each of what the layout table has
at its offset, put together most significant byte first. -/
def Obligations.WideReadsAreByteReads : Prop :=
  ∀ (s : State) (o : Offset), Ready s → (s.params.regBase.toNat + o.toNat) % 2 = 0 →
    let at_ := fun k : Offset => byteReadForm (rowAt s.params.layout (o + k))
    (o.toNat + 2 ≤ 64 → s.params.regBase.toNat + o.toNat + 2 ≤ 2 ^ 24 →
      ∃ x y n, runAll [at_ 0, at_ 1] s =
          .next { s with draws := n, results := s.results ++ [.byte x, .byte y] } ∧
        exec (.rwEven o) s = .next { s with draws := n, results := s.results ++ [.word (x ++ y)] }) ∧
    (o.toNat + 4 ≤ 64 → s.params.regBase.toNat + o.toNat + 4 ≤ 2 ^ 24 →
      ∃ x y z w n, runAll [at_ 0, at_ 1, at_ 2, at_ 3] s =
          .next { s with draws := n, results := s.results ++ [.byte x, .byte y, .byte z, .byte w] } ∧
        exec (.rlEven o) s = .next { s with draws := n, results := s.results ++ [.long (x ++ y ++ z ++ w)] })

/-- 41 R500, 20 R211: no bus read changes the block or anything else but the record of results (and the count of the
model's draws). -/
def Obligations.ReadsChangeNoState : Prop :=
  ∀ (s t : State) (i : Instr), isBusRead i = true → exec i s = .next t →
    ∃ n r, t = { s with draws := n, results := s.results ++ [r] }

/-- 10 R103, 70 R1007: a read that follows a write of a stored register sees the byte written, for every register but the
frame-counter bytes, the codec status and the unassigned bytes (the registers by their default offsets). -/
def Obligations.ReadAfterWrite : Prop :=
  ∀ (s t : State) (o : Offset) (d : Byte),
    o.toNat ∈ [0x00, 0x01, 0x03, 0x05, 0x07, 0x0F, 0x11, 0x13, 0x20, 0x21, 0x30, 0x31, 0x32, 0x33, 0x34, 0x35, 0x36, 0x37,
      0x38, 0x39, 0x3A, 0x3B] →
    exec (byteWriteForm o d) s = .next t →
    exec (byteReadForm o) t = .next { t with results := t.results ++ [.byte d] }

/-! ### Clock scheduler -/

/-- 00 R12: with its first constraint every period of either oscillator is at least one cycle, in every configuration. -/
def Obligations.PeriodIsAtLeastOneCycle : Prop :=
  ∀ (p : Params) (b : Block) (x : OscId), MeetsR12 p → 1 ≤ b.playTracks → b.playTracks ≤ 4 →
    f64Le f64One (cyclesPerTick p b x) = true

/-- 42 R611: below 2^53 cycles no fire schedules a delay of 0, so a fire with the current epoch completes. The premises
beyond R611's own, a finite `cpt` and an accumulator that is not negative, are the model's (notes/assumptions/20.md). -/
def Obligations.OscillatorsNeverStall : Prop :=
  ∀ (s : State) (x : OscId), Ready s → Inv s → f64IsFinite (oscOf x s.block).cpt = true →
    f64IsFinite (oscOf x s.block).acc = true → 0 ≤ f64Units (oscOf x s.block).acc →
    f64Units (oscOf x s.block).acc < 2 ^ 53 * 2 ^ 1074 →
    1 ≤ ffloor (fadd (oscOf x s.block).acc (oscOf x s.block).cpt) - (oscOf x s.block).consumed ∧
      ∃ t, tickOf x s = .next t

/-- 42 R612: over any number N of fires the delays scheduled sum to the floor of the accumulator less what had been
consumed, and the accumulator is `cpt` added N times: no drift. From an accumulator of 0 it differs from the exact
`N × cpt` by at most N half-ulps of 2^k, where `N × cpt ≤ 2^k`, and for N up to 100,000 (and a period of at most 2^20
cycles, which takes in R612's 160.33) the sum is `floor(N × cpt)` within 1 cycle. -/
def Obligations.SchedulingDoesNotDrift : Prop :=
  ∀ (s t : State) (x : OscId) (n : Nat), ticksOf x (n + 1) s = .next t →
    let cpt := (oscOf x s.block).cpt
    let exact : Int := (n + 1) * f64Units cpt
    (oscOf x t.block).acc = (fun a => fadd a cpt)^[n + 1] (oscOf x s.block).acc ∧
      ∃ l, t.events = s.events ++ l ∧ (delays x l).length = n + 1 ∧
        ((delays x l).sum : Int) = ffloor (oscOf x t.block).acc - (oscOf x s.block).consumed ∧
        (f64IsFinite cpt = true → 0 < f64Units cpt → (oscOf x s.block).acc = f64Zero → (oscOf x s.block).consumed = 0 →
          (∀ k, k ≤ 1000 → n + 1 < 2 ^ 53 → exact ≤ 2 ^ k * 2 ^ 1074 →
            |f64Units (oscOf x t.block).acc - exact| * 2 ^ 53 ≤ (n + 1) * (2 ^ k * 2 ^ 1074)) ∧
          (n + 1 ≤ 100000 → f64Units cpt ≤ 2 ^ 20 * 2 ^ 1074 →
            |((delays x l).sum : Int) - exact / 2 ^ 1074| ≤ 1))

/-- 42 R613 with R610: a current fire of oscillator A is acknowledged, runs the sub-flows that A clocks in order, and
schedules the next (a delay below one cycle is refused); a fire with another tag is only acknowledged. -/
def Obligations.FireARunsWhatItClocks : Prop :=
  ∀ s : State, Ready s →
    let o := s.block.oscA
    let n := ffloor (fadd o.acc o.cpt)
    let s0 := { s with events := s.events ++ [.acknowledge] }
    let s1 := if s.block.internalFrequencyDivider = 0 ∨ s.block.dspXmitFreqSel = s.params.layout.clockA then dspXmitTick s0 else s0
    let s2 := if s.block.internalFrequencyDivider = 0 ∨ s.block.dmaPlayFreqSel = s.params.layout.clockA then dmaPlayTick s1 else s1
    let s3 := adcTick s2
    (1 ≤ n - o.consumed → exec (.fireA s.block.epoch) s = .next { s3 with
      block := { s3.block with oscA := { cpt := o.cpt, acc := fadd o.acc o.cpt, consumed := n } }
      events := s3.events ++ [.scheduleRelative (n - o.consumed).toNat .a s.block.epoch] }) ∧
    (n - o.consumed < 1 → exec (.fireA s.block.epoch) s = .refused .zeroDelay) ∧
    (∀ e, e ≠ s.block.epoch → exec (.fireA e) s = .next s0) ∧
    defaultLayout.clockA = 0b00#2

/-- 42 R614 with R610: a current fire of oscillator B runs only what B clocks, nothing in legacy mode and never the ADC,
and schedules the next (a delay below one cycle is refused); a fire with another tag is only acknowledged. -/
def Obligations.FireBRunsWhatItClocks : Prop :=
  ∀ s : State, Ready s →
    let o := s.block.oscB
    let n := ffloor (fadd o.acc o.cpt)
    let s0 := { s with events := s.events ++ [.acknowledge] }
    let s1 := if s.block.internalFrequencyDivider ≠ 0 ∧ s.block.dspXmitFreqSel = s.params.layout.clockB then dspXmitTick s0 else s0
    let s2 := if s.block.internalFrequencyDivider ≠ 0 ∧ s.block.dmaPlayFreqSel = s.params.layout.clockB then dmaPlayTick s1 else s1
    (1 ≤ n - o.consumed → exec (.fireB s.block.epoch) s = .next { s2 with
      block := { s2.block with oscB := { cpt := o.cpt, acc := fadd o.acc o.cpt, consumed := n } }
      events := s2.events ++ [.scheduleRelative (n - o.consumed).toNat .b s.block.epoch] }) ∧
    (n - o.consumed < 1 → exec (.fireB s.block.epoch) s = .refused .zeroDelay) ∧
    (∀ e, e ≠ s.block.epoch → exec (.fireB e) s = .next s0) ∧
    defaultLayout.clockB = 0b10#2

/-! ### Transfer engine -/

/-- 43 R702, R703, R706 with R701, R730, R731: a play tick that does not move leaves everything as it is; one that moves
takes the flag of a gated channel, advances slot and counter, and ends the frame that is through. -/
def Obligations.PlayTickMovesTheChannel : Prop :=
  ∀ s : State,
    let c := s.block.playDma
    let n := c.frameCounter + if s.block.is16Bit then 2 else if s.block.isStereo then 1 else c.slot % 2
    let moved := { c with
      handshakeFrame := c.handshakeFrame && !c.connectedToDspHandshake
      slot := (c.slot + 1) % (s.block.playTracks * 2)
      frameCounter := n }
    (¬PlayMoves s → dmaPlayTick s = s) ∧
    (PlayMoves s → (dmaPlayTick s).block.playDma =
      if n < c.frameLen.toNat then moved
      else if c.loopMode then { moved with
        frameStart := s.block.latchedStartPlay
        frameEnd := s.block.latchedEndPlay
        frameLen := s.block.latchedEndPlay - s.block.latchedStartPlay
        frameCounter := 0 }
      else { moved with isRunning := false, frameCounter := 0 })

/-- 43 R701, R704 to R706 with 20 R202 to R204: a play tick that moves takes the flag of a gated channel, reads its sample's
bytes at the channel's address, and sends it on in the order of R700: DMA-record gets the sample, the DAC gets a 16-bit
sample as it is and an 8-bit one times 64 with the slot before its advance, DSP-receive gets the sample and whether that
slot is 0. Then slot and counter move on, and a frame that is through ends. A byte that memory lists reads as listed, and
what an unlisted one reads as is the model's draw (notes/assumptions/4.md, 6.md). -/
def Obligations.PlayTickFeedsItsDestinations : Prop :=
  ∀ s : State, PlayMoves s →
    let c := s.block.playDma
    let a : Addr := c.frameStart + BitVec.ofNat 24 c.frameCounter
    let v : Sample :=
      if s.block.is16Bit then memByte a s ++ memByte (a + 1) (memRead a s) else (memByte a s).signExtend 16
    let forDac : Sample := if s.block.is16Bit then v else BitVec.ofInt 16 ((memByte a s).toInt * 64)
    let n := c.frameCounter + if s.block.is16Bit then 2 else if s.block.isStereo then 1 else c.slot % 2
    let s0 := { s with block := { s.block with
      playDma := { c with handshakeFrame := c.handshakeFrame && !c.connectedToDspHandshake } } }
    let s1 := if s.block.is16Bit then memRead (a + 1) (memRead a s0) else memRead a s0
    let s2 := if c.connectedToDma then dmaRecordSink v s1 else s1
    let s3 := if c.connectedToCodec then dacSink forDac c.slot s2 else s2
    let s4 := if c.connectedToDsp then dspRxSink v (decide (c.slot = 0)) s3 else s3
    let s5 := { s4 with block := { s4.block with
      playDma := { s4.block.playDma with slot := (c.slot + 1) % (s.block.playTracks * 2), frameCounter := n } } }
    (∀ b, memLookup s.memory a.toNat = some b → memByte a s = b) ∧
    (∀ b, memLookup s.memory (a + 1).toNat = some b → memByte (a + 1) (memRead a s) = b) ∧
    dmaPlayTick s = (if n < c.frameLen.toNat then s5 else endOfFrame .play s5) ∧
    (∃ l, (dmaPlayTick s).events =
      s.events ++ (if s.block.is16Bit then [.memRead a, .memRead (a + 1)] else [.memRead a]) ++ l) ∧
    (dmaPlayTick s).block.dac = (if c.connectedToCodec then dacSink forDac c.slot s else s).block.dac ∧
    (dmaPlayTick s).block.dacPending = (if c.connectedToCodec then dacSink forDac c.slot s else s).block.dacPending

/-- 43 R725 to R727, R735: the DAC takes only the monitored pair, zero while muted, and moves on after the right half;
DSP-receive, unless tristated, gets the word and the two lines. -/
def Obligations.DacAndDspReceiveSinks : Prop :=
  ∀ (s : State) (v : Sample) (slot : Nat) (frame : Bool),
    let x := if s.block.isDacMuted then 0 else v
    (slot = s.block.trackMonitored.toNat * 2 → dacSink v slot s = { s with block := { s.block with
      dac := { s.block.dac with left := s.block.dac.left.set s.block.dac.wr x } } }) ∧
    (slot = s.block.trackMonitored.toNat * 2 + 1 → dacSink v slot s = { s with block := { s.block with
      dac := { s.block.dac with
        right := s.block.dac.right.set s.block.dac.wr x
        wr := (s.block.dac.wr + 1) % s.params.dacCap }
      dacPending := fadd s.block.dacPending f64One } }) ∧
    (slot ≠ s.block.trackMonitored.toNat * 2 → slot ≠ s.block.trackMonitored.toNat * 2 + 1 → dacSink v slot s = s) ∧
    (s.block.dspRx.isTristated = true → dspRxSink v frame s = s) ∧
    (s.block.dspRx.isTristated = false → dspRxSink v frame s =
      { s with events := s.events ++ [.dspWriteRx v, .dspFrameSyncIn .rx frame, .dspBitClock .rx] })

/-- 43 R710 to R713 with 20 R205: a sample for a stopped record channel is dropped; a running one stores it at the record
address, big-endian or its low byte, changes no other byte, and moves on by the record slot and track count. -/
def Obligations.RecordSinkStoresTheSample : Prop :=
  ∀ (s : State) (v : Sample),
    let c := s.block.recDma
    let a : Addr := c.frameStart + BitVec.ofNat 24 c.frameCounter
    let n := c.frameCounter + if s.block.is16Bit then 2 else if s.block.isStereo then 1 else c.slot % 2
    let moved := { c with slot := (c.slot + 1) % (s.block.recordTracks * 2), frameCounter := n }
    let t := dmaRecordSink v s
    (c.isRunning = false → t = s) ∧
    (c.isRunning = true →
      (s.block.is16Bit = true →
        memLookup t.memory a.toNat = some (v.extractLsb' 8 8) ∧
        memLookup t.memory (a + 1).toNat = some (v.extractLsb' 0 8) ∧
        (∀ b : Addr, b ≠ a → b ≠ a + 1 → memLookup t.memory b.toNat = memLookup s.memory b.toNat) ∧
        ∃ l, t.events = s.events ++ [.memWrite a (v.extractLsb' 8 8), .memWrite (a + 1) (v.extractLsb' 0 8)] ++ l) ∧
      (s.block.is16Bit = false →
        memLookup t.memory a.toNat = some (v.extractLsb' 0 8) ∧
        (∀ b : Addr, b ≠ a → memLookup t.memory b.toNat = memLookup s.memory b.toNat) ∧
        ∃ l, t.events = s.events ++ [.memWrite a (v.extractLsb' 0 8)] ++ l) ∧
      t.block.recDma =
        if n < c.frameLen.toNat then moved
        else if c.loopMode then { moved with
          frameStart := s.block.latchedStartRec
          frameEnd := s.block.latchedEndRec
          frameLen := s.block.latchedEndRec - s.block.latchedStartRec
          frameCounter := 0 }
        else { moved with isRunning := false, frameCounter := 0 })

/-- 43 R739: with DMA-play wired to the DAC and to DMA-record, in 16-bit mode, one tick on a monitored slot puts the same
sample in both. A byte that memory lists reads as listed (notes/assumptions/4.md). -/
def Obligations.FanOutReachesDacAndMemory : Prop :=
  ∀ s : State, PlayMoves s → s.block.is16Bit = true → s.block.isDacMuted = false →
    s.block.playDma.connectedToDma = true → s.block.playDma.connectedToCodec = true →
    s.block.recDma.isRunning = true →
    let a : Addr := s.block.playDma.frameStart + BitVec.ofNat 24 s.block.playDma.frameCounter
    let r : Addr := s.block.recDma.frameStart + BitVec.ofNat 24 s.block.recDma.frameCounter
    let v : Sample := memByte a s ++ memByte (a + 1) (memRead a s)
    let t := dmaPlayTick s
    (∀ b, memLookup s.memory a.toNat = some b → memByte a s = b) ∧
    (∀ b, memLookup s.memory (a + 1).toNat = some b → memByte (a + 1) (memRead a s) = b) ∧
    memLookup t.memory r.toNat = some (v.extractLsb' 8 8) ∧
    memLookup t.memory (r + 1).toNat = some (v.extractLsb' 0 8) ∧
    (s.block.playDma.slot = s.block.trackMonitored.toNat * 2 → s.block.dac.wr < s.block.dac.left.length →
      t.block.dac.left[s.block.dac.wr]? = some v) ∧
    (s.block.playDma.slot = s.block.trackMonitored.toNat * 2 + 1 → s.block.dac.wr < s.block.dac.right.length →
      t.block.dac.right[s.block.dac.wr]? = some v)

/-- 43 R715 to R718 with R700: a tristated DSP-transmit port does nothing; a handshaking one moves one word into DMA-record
for each frame-sync-out and drives no line; else the lines are driven, the word is read and sent on to DMA-record, the DAC
and DSP-receive, as they are wired and in that order, and the word count moves on. The word `v` is the model's: the next of
the DSP's queue (notes/assumptions/5.md), else a draw (notes/assumptions/6.md). -/
def Obligations.DspTransmitTick : Prop :=
  ∀ s : State,
    let p := s.block.dspTx
    let w := p.wordCount
    let v := s.dspWords.head?.getD (Config.drawWord s.draws)
    let t := dspXmitTick s
    let s1 := { s with
      dspWords := s.dspWords.tail
      draws := if s.dspWords = [] then s.draws + 1 else s.draws
      events := s.events ++ [.dspFrameSyncIn .tx (decide (w = 0)), .dspBitClock .tx, .dspReadTx] }
    let s2 := if p.connectedToDma then dmaRecordSink v s1 else s1
    let s3 := if p.connectedToCodec then dacSink v w s2 else s2
    let s4 := if p.connectedToDsp then dspRxSink v (decide (w = 0)) s3 else s3
    (p.isTristated = true → t = s) ∧
    (p.isTristated = false → p.connectedToDmaHandshake = true →
      (s.block.recDma.handshakeFrame = false → t = s) ∧
      (s.block.recDma.handshakeFrame = true →
        t = dmaRecordSink v (dspReadTx { s with block := { s.block with
          recDma := { s.block.recDma with handshakeFrame := false } } }) ∧
        t.block.recDma.handshakeFrame = false ∧ t.block.dspTx = p ∧ t.block.dac = s.block.dac)) ∧
    (p.isTristated = false → p.connectedToDmaHandshake = false →
      t = { s4 with block := { s4.block with
        dspTx := { p with wordCount := (w + 1) % (s.block.playTracks * 2) } } } ∧
      (∃ l, t.events =
        s.events ++ [.dspFrameSyncIn .tx (decide (w = 0)), .dspBitClock .tx, .dspReadTx] ++ l) ∧
      t.block.dac = (if p.connectedToCodec then dacSink v w s else s).block.dac)

/-- 43 R720, R721 with R700: the ADC reads one side per tick, the read position moves after the right half only, and the
sample goes on to DMA-record, to the DAC as slot 0 or 1, and to DSP-receive with the frame-sync bit of the left half, as
they are wired and in that order. A read position past the arrays, which no state that meets the invariant has, reads 0:
the model's (notes/assumptions/15.md). -/
def Obligations.AdcTickAlternates : Prop :=
  ∀ s : State,
    let c := s.block.adc
    let isLeft := decide (c.side = .left)
    let v := (if isLeft then s.block.adcBuf.left else s.block.adcBuf.right).getD s.block.adcBuf.rd 0
    let ring := if isLeft then s.block.adcBuf
      else { s.block.adcBuf with rd := (s.block.adcBuf.rd + 1) % s.params.adcCap }
    let slot := if isLeft then 0 else 1
    let s1 := { s with block := { s.block with adcBuf := ring } }
    let s2 := if c.connectedToDma then dmaRecordSink v s1 else s1
    let s3 := if c.connectedToCodec then dacSink v slot s2 else s2
    let s4 := if c.connectedToDsp then dspRxSink v isLeft s3 else s3
    let t := adcTick s
    t = { s4 with block := { s4.block with adc := { c with side := if isLeft then .right else .left } } } ∧
    t.block.adc.side = (if isLeft then .right else .left) ∧ t.block.adcBuf = ring ∧
    t.block.dac = (if c.connectedToCodec then dacSink v slot s else s).block.dac ∧
    (c.connectedToDma = false → c.connectedToDsp = true → s.block.dspRx.isTristated = false →
      t.events = s.events ++ [.dspWriteRx v, .dspFrameSyncIn .rx isLeft, .dspBitClock .rx]) ∧
    (c.connectedToDma = true → s.block.recDma.isRunning = true → s.block.is16Bit = true →
      let a : Addr := s.block.recDma.frameStart + BitVec.ofNat 24 s.block.recDma.frameCounter
      memLookup t.memory a.toNat = some (v.extractLsb' 8 8) ∧
        memLookup t.memory (a + 1).toNat = some (v.extractLsb' 0 8))

/-- 43 R730, R731, 60 R908: an end of frame pulses the enabled paths, GPIO first, and then reloads the latched frame or
stops the channel and clears its run bit. -/
def Obligations.EndOfFramePulsesThenReloadsOrStops : Prop :=
  ∀ s : State,
    endOfFrame .play s = { s with
      block :=
        if s.block.playDma.loopMode then { s.block with
          playDma := { s.block.playDma with
            frameStart := s.block.latchedStartPlay
            frameEnd := s.block.latchedEndPlay
            frameLen := s.block.latchedEndPlay - s.block.latchedStartPlay
            frameCounter := 0 } }
        else { s.block with
          playDma := { s.block.playDma with isRunning := false, frameCounter := 0 }
          raw := { s.block.raw with dmaControl := s.block.raw.dmaControl &&& ~~~(1#8 <<< (s.params.layout.playRun : Nat)) } }
      events := s.events ++ (framePulses s.block.playDma).map .pulseIrq ++
        if s.block.playDma.loopMode && decide (s.block.latchedEndPlay.toNat ≤ s.block.latchedStartPlay.toNat) then
          [.logDegenerateFrame .play]
        else [] } ∧
    endOfFrame .record s = { s with
      block :=
        if s.block.recDma.loopMode then { s.block with
          recDma := { s.block.recDma with
            frameStart := s.block.latchedStartRec
            frameEnd := s.block.latchedEndRec
            frameLen := s.block.latchedEndRec - s.block.latchedStartRec
            frameCounter := 0 } }
        else { s.block with
          recDma := { s.block.recDma with isRunning := false, frameCounter := 0 }
          raw := { s.block.raw with dmaControl := s.block.raw.dmaControl &&& ~~~(1#8 <<< (s.params.layout.recRun : Nat)) } }
      events := s.events ++ (framePulses s.block.recDma).map .pulseIrq ++
        if s.block.recDma.loopMode && decide (s.block.latchedEndRec.toNat ≤ s.block.latchedStartRec.toNat) then
          [.logDegenerateFrame .record]
        else [] } ∧
    defaultLayout.playRun = 0 ∧ defaultLayout.recRun = 4

/-- 43 R701, R731: a looping play channel's counter after `k` ticks is the bytes moved modulo the frame, for ever. -/
def Obligations.LoopedFrameRepeats : Prop :=
  ∀ (s : State) (inc len k : Nat), Streams s inc len → s.block.playDma.loopMode = true →
    let t := dmaPlayTick^[k] s
    t.block.playDma.frameCounter = inc * k % len ∧ t.block.playDma.isRunning = true ∧
      t.block.playDma.frameStart = s.block.playDma.frameStart ∧ t.block.playDma.frameLen = s.block.playDma.frameLen

/-- 43 R730: with loop off a channel streams its frame once, pulses each enabled path exactly once, and stops with its run
bit cleared; later ticks do nothing. -/
def Obligations.OneShotFrameEndsOnce : Prop :=
  ∀ (s : State) (inc len k : Nat), Streams s inc len → s.block.playDma.loopMode = false →
    s.block.playDma.connectedToDma = false →
    let t := dmaPlayTick^[k] s
    (inc * k < len → t.block.playDma.isRunning = true ∧ t.block.playDma.frameCounter = inc * k ∧
      pulses t.events = pulses s.events ∧ t.block.raw = s.block.raw) ∧
    (len ≤ inc * k → t.block.playDma.isRunning = false ∧ t.block.playDma.frameCounter = 0 ∧
      pulses t.events = pulses s.events ++ framePulses s.block.playDma ∧
      t.block.raw = { s.block.raw with dmaControl := s.block.raw.dmaControl &&&
        ~~~(1#8 <<< (s.params.layout.playRun : Nat)) } ∧
      dmaPlayTick t = t)

/-- 43 R703: over 8 consecutive play ticks an 8-bit mono channel makes exactly 4 advances. -/
def Obligations.MonoAdvancesEveryOtherTick : Prop :=
  ∀ s : State, s.block.playDma.isRunning = true → s.block.playDma.connectedToDspHandshake = false →
    s.block.is16Bit = false → s.block.isStereo = false →
    s.block.playDma.frameCounter + 4 < s.block.playDma.frameLen.toNat →
    (dmaPlayTick^[8] s).block.playDma.frameCounter = s.block.playDma.frameCounter + 4

/-! ### Host bridge, DSP frame-sync, snapshot -/

/-- 44_host_bridge.md R800 to R805: the drain emits while a whole sample is pending and there is room, averages each pair
with the nearest DAC pair (the average always fits in `int16`), leaves the rest of the buffer, and moves the read position
on by the rounded final position. The model's are: a position past the arrays, which no state that meets the invariant has,
reads 0 (notes/assumptions/15.md); N is the buffer's length (notes/assumptions/18.md); and the floor of a position that is
not finite is free (notes/assumptions/12.md, 20.md). -/
def Obligations.HostDrainConvertsTheRate : Prop :=
  ∀ (s : State) (mix : List StereoPair), Ready s →
    let ratio := fdiv (tableRate s.params s.block.internalFrequencyDivider s.block.steFrequencyIndex .a) s.params.hostRate
    let pos := fun k : Nat => (fun x => fadd x ratio)^[k] f64Zero
    let pending := fun k : Nat => (fun x => fsub x ratio)^[k] s.block.dacPending
    let idx := fun k : Nat => (((s.block.dac.rd : Int) + ffloor (fadd (pos k) f64Half)) % (s.params.dacCap : Int)).toNat
    let average := fun m d : Sample => BitVec.ofInt 16 ((m.toInt + d.toInt).tdiv 2)
    (∀ m d, (average m d).toInt = (m.toInt + d.toInt).tdiv 2) ∧
    ∃ n, n ≤ mix.length ∧ (∀ k, k < n → f64Le f64One (pending k) = true) ∧
      (n = mix.length ∨ f64Le f64One (pending n) = false) ∧
      exec (.drain mix) s = .next { s with
        block := { s.block with
          dac := { s.block.dac with rd := idx n }
          dacPending := pending n }
        results := s.results ++ [.mix (mix.mapIdx (fun k m =>
          if k < n then
            (average m.1 (s.block.dac.left.getD (idx k) 0), average m.2 (s.block.dac.right.getD (idx k) 0))
          else m))] }

/-- 44 R810 to R812: the feed writes the nearest host pair for each internal sample until its position is past the input,
and changes nothing else; beyond the bound of R812 it is refused. The input is shorter than 2^1023 pairs, so that its
length is a binary64 number, and the ratio is finite (notes/assumptions/16.md). -/
def Obligations.MicrophoneFeedConvertsTheRate : Prop :=
  ∀ (s : State) (l : List StereoPair), Ready s →
    let ratio := fdiv s.params.hostRate (tableRate s.params s.block.internalFrequencyDivider s.block.steFrequencyIndex .a)
    let pos := fun k : Nat => (fun x => fadd x ratio)^[k] f64Zero
    let near := fun k : Nat => ffloor (fadd (pos k) f64Half)
    f64IsFinite ratio = true → l.length < 2 ^ 1023 →
    (2 ^ 52 * f64Units ratio ≤ (l.length : Int) * 2 ^ 1074 → exec (.mic l) s = .refused .feedTooLong) ∧
    ((l.length : Int) * 2 ^ 1074 < 2 ^ 52 * f64Units ratio →
      ∃ n, (∀ k, k < n → near k < l.length) ∧ (l.length : Int) ≤ near n ∧
        exec (.mic l) s = .next { s with block := { s.block with
          adcBuf := (List.range n).foldl
            (fun r k => { r with
              left := r.left.set r.wr (l.getD (near k).toNat (0, 0)).1
              right := r.right.set r.wr (l.getD (near k).toNat (0, 0)).2
              wr := (r.wr + 1) % s.params.adcCap })
            s.block.adcBuf } })

/-- 44 R820, R821: a DSP frame-sync-out event sets its channel's flag, whatever the channel does. -/
def Obligations.FrameSyncOutSetsTheFlag : Prop :=
  ∀ s : State, Ready s →
    exec .fsoPlay s = .next { s with block := { s.block with
      playDma := { s.block.playDma with handshakeFrame := true } } } ∧
    exec .fsoRec s = .next { s with block := { s.block with
      recDma := { s.block.recDma with handshakeFrame := true } } }

/-- 44 R831, R832: RESTORE replaces the block with an image that meets the invariants of 10_state.md, verbatim and with
no event, and refuses every other image. Which invariants those are beyond R832's list is the model's reading
(notes/assumptions/17.md). -/
def Obligations.RestoreReplacesTheBlock : Prop :=
  ∀ (s : State) (img : Block), Ready s →
    (GoodImage s.params img → exec (.restore img) s = .next { s with block := img }) ∧
    (¬GoodImage s.params img → exec (.restore img) s = .refused .badSnapshot)

/-- 44 R830, R832: CAPTURE returns the block as it is, and restoring that image, at once or after anything else that
leaves the instance ready, gives the block back. -/
def Obligations.CaptureThenRestoreIsTheIdentity : Prop :=
  ∀ s : State, Ready s → Inv s →
    exec .capture s = .next { s with results := s.results ++ [.image s.block] } ∧
    ∀ t : State, Ready t → t.params = s.params → exec (.restore s.block) t = .next { t with block := s.block }

/-! ### Who may change what -/

/-- 20_memory.md R218: each ring position and array has one writer. Resets and restores, which replace the whole block,
apart. -/
def Obligations.RingBuffersHaveOneWriter : Prop :=
  ∀ (s t : State) (i : Instr), exec i s = .next t → isReset i = false → isRestore i = false →
    (isFire i = false → t.block.dac.left = s.block.dac.left ∧ t.block.dac.right = s.block.dac.right ∧
      t.block.dac.wr = s.block.dac.wr ∧ t.block.adcBuf.rd = s.block.adcBuf.rd) ∧
    (isDrain i = false → t.block.dac.rd = s.block.dac.rd) ∧
    (isFeed i = false → t.block.adcBuf.left = s.block.adcBuf.left ∧ t.block.adcBuf.right = s.block.adcBuf.right ∧
      t.block.adcBuf.wr = s.block.adcBuf.wr) ∧
    (isFire i = false → isDrain i = false → t.block.dacPending = s.block.dacPending)

/-- 10 R104: apart from bus writes (and resets and restores), the register file changes only by an auto-stop: a run bit of
a channel that ran with loop off and has stopped is cleared. -/
def Obligations.RegisterFileChangesByAutoStopOnly : Prop :=
  ∀ (s t : State) (i : Instr), exec i s = .next t → isBusWrite i = false → isReset i = false → isRestore i = false →
    ∃ playStops recStops : Bool,
      t.block.raw = { s.block.raw with dmaControl := s.block.raw.dmaControl &&&
        (if playStops then ~~~(1#8 <<< (s.params.layout.playRun : Nat)) else 0b11111111#8) &&&
        (if recStops then ~~~(1#8 <<< (s.params.layout.recRun : Nat)) else 0b11111111#8) } ∧
      (playStops = true → isFire i = true ∧ s.block.playDma.isRunning = true ∧ s.block.playDma.loopMode = false ∧
        t.block.playDma.isRunning = false) ∧
      (recStops = true → isFire i = true ∧ s.block.recDma.isRunning = true ∧ s.block.recDma.loopMode = false ∧
        t.block.recDma.isRunning = false)

/-- 42 R609, 10 R114, 00 R11: only the three clock writes (alone or in a wide write that reaches one of the three, by the
layout table), a reset or a restore change a period or the mute; only a reset or a restore changes the epoch; nothing
changes the parameters. -/
def Obligations.ClockChangesByItsCallersOnly : Prop :=
  ∀ (s t : State) (i : Instr), exec i s = .next t →
    t.params = s.params ∧
    (isReset i = false → isRestore i = false → t.block.epoch = s.block.epoch) ∧
    (isReset i = false → isRestore i = false → mayRecompute s.params.layout i = false →
      t.block.oscA.cpt = s.block.oscA.cpt ∧ t.block.oscB.cpt = s.block.oscB.cpt ∧
        t.block.isDacMuted = s.block.isDacMuted) ∧
    (isReset i = false → isRestore i = false → mayRecompute s.params.layout i = false → isFire i = false →
      t.block.oscA = s.block.oscA ∧ t.block.oscB = s.block.oscB)

/-- 60 R906, 20 R200, 70 R1003, 44 R840: only a fire pulses an interrupt, reads or writes main memory or calls the DSP, and a
pulse needs a channel that runs with that path enabled. -/
def Obligations.OnlyFiresReachOutside : Prop :=
  ∀ (s t : State) (i : Instr), exec i s = .next t →
    ∃ l, t.events = s.events ++ l ∧
      (isFire i = false → t.memory = s.memory ∧ t.dspWords = s.dspWords ∧ pulses l = [] ∧
        (∀ a v, .memRead a ∉ l ∧ .memWrite a v ∉ l) ∧ .dspReadTx ∉ l ∧
        ∀ p v b, .dspWriteRx v ∉ l ∧ .dspFrameSyncIn p b ∉ l ∧ .dspBitClock p ∉ l) ∧
      (.gpio ∈ pulses l → s.block.playDma.isRunning = true ∧ s.block.playDma.mfpInterrupt15 = true ∨
        s.block.recDma.isRunning = true ∧ s.block.recDma.mfpInterrupt15 = true) ∧
      (.timerA ∈ pulses l → s.block.playDma.isRunning = true ∧ s.block.playDma.timerAInterrupt = true ∨
        s.block.recDma.isRunning = true ∧ s.block.recDma.timerAInterrupt = true)

/-- The frame of a fire (43, "State written"): it leaves the configuration, the latches, the other oscillator, the DAC's
read position and the ADC's samples as they were, and the parameters, the stream and the results. -/
def Obligations.FiresLeaveConfigurationAlone : Prop :=
  ∀ (s t : State) (e : Nat),
    (exec (.fireA e) s = .next t →
      fixedPart s.params.layout { t.block with oscA := s.block.oscA } = fixedPart s.params.layout s.block ∧ t.params = s.params ∧
        t.hasReset = s.hasReset ∧ t.stream = s.stream ∧ t.results = s.results) ∧
    (exec (.fireB e) s = .next t →
      fixedPart s.params.layout { t.block with oscB := s.block.oscB } = fixedPart s.params.layout s.block ∧ t.params = s.params ∧
        t.hasReset = s.hasReset ∧ t.stream = s.stream ∧ t.results = s.results)

/-- 43 R737 with R710: in one fire DMA-record takes at most one sample, so every byte of memory but the one or two at the
record channel's address before the fire reads as before, and all of them if the record channel is stopped. -/
def Obligations.FireStoresAtTheRecordAddressOnly : Prop :=
  ∀ (s t : State) (i : Instr), isFire i = true → Inv s → exec i s = .next t →
    let a : Addr := s.block.recDma.frameStart + BitVec.ofNat 24 s.block.recDma.frameCounter
    (s.block.recDma.isRunning = false → t.memory = s.memory) ∧
    ∀ b : Addr, b ≠ a → (s.block.is16Bit = true → b ≠ a + 1) →
      memLookup t.memory b.toNat = memLookup s.memory b.toNat

/-! ### Pseudo-operations -/

/-- 30 R337: what the pseudo-operations expand to and do. `setstart` and `setend` store the three bytes of the address and
latch it, bit 0 forced to 0, for the selected channel; `select`, where the block meets its invariants, changes the select
bit and `dmaSelected` alone, so it never starts or stops a channel; `tick` is a fire with the current epoch. -/
def Obligations.PseudoOperationsExpand : Prop :=
  ∀ (s : State) (a : Addr), Ready s →
    let l := s.params.layout
    let latched := (a.extractLsb' 16 8 ++ a.extractLsb' 8 8 ++ (a.extractLsb' 0 8 &&& 0xFE#8) : Addr)
    (setStart a = [.wb03FrameStartHi (a.extractLsb' 16 8), .wb05FrameStartMid (a.extractLsb' 8 8),
        .wb07FrameStartLo (a.extractLsb' 0 8)] ∧
      runAll (setStart a) s = .next { s with block := { s.block with
        raw := { s.block.raw with
          startHi := a.extractLsb' 16 8, startMid := a.extractLsb' 8 8, startLo := a.extractLsb' 0 8 }
        latchedStartPlay := if s.block.dmaSelected then s.block.latchedStartPlay else latched
        latchedStartRec := if s.block.dmaSelected then latched else s.block.latchedStartRec } }) ∧
    (setEnd a = [.wb0FFrameEndHi (a.extractLsb' 16 8), .wb11FrameEndMid (a.extractLsb' 8 8),
        .wb13FrameEndLo (a.extractLsb' 0 8)] ∧
      runAll (setEnd a) s = .next { s with block := { s.block with
        raw := { s.block.raw with
          endHi := a.extractLsb' 16 8, endMid := a.extractLsb' 8 8, endLo := a.extractLsb' 0 8 }
        latchedEndPlay := if s.block.dmaSelected then s.block.latchedEndPlay else latched
        latchedEndRec := if s.block.dmaSelected then latched else s.block.latchedEndRec } }) ∧
    (Inv s →
      exec (select .play s) s = .next { s with block := { s.block with
        raw := { s.block.raw with dmaControl := s.block.raw.dmaControl &&& ~~~(1#8 <<< (l.dmaSelect : Nat)) }
        dmaSelected := false } } ∧
      exec (select .record s) s = .next { s with block := { s.block with
        raw := { s.block.raw with dmaControl := s.block.raw.dmaControl ||| 1#8 <<< (l.dmaSelect : Nat) }
        dmaSelected := true } }) ∧
    tick .a s = .fireA s.block.epoch ∧ tick .b s = .fireB s.block.epoch ∧ defaultLayout.dmaSelect = 7

end
end

