-- ==== Sys2Proof/Laws/Binary64.lean ====
section
/-! SUPPORT. Laws of the binary64 arithmetic: rounding is monotone and exact on representable values. A representable
magnitude is `m * 2 ^ k` units with `m < 2 ^ 53`, and `2 ^ 52 ≤ m` unless `k = 0`; its bits are `m + k * 2 ^ 52`. -/

namespace Sys2Proof.Machine

/-! ### Rounding a quotient to an integer -/

theorem le_roundDiv {v n d : Nat} (hd : 0 < d) (h : v * d ≤ n) : v ≤ roundDiv n d := by
  have hq : v ≤ n / d := (Nat.le_div_iff_mul_le hd).2 h
  simp only [roundDiv]
  split <;> omega

theorem roundDiv_le {v n d : Nat} (hd : 0 < d) (h : n ≤ v * d) : roundDiv n d ≤ v := by
  have hmod := Nat.mod_lt n hd
  have hdm := Nat.div_add_mod n d
  have hq : n / d ≤ v := Nat.div_le_of_le_mul (by rw [Nat.mul_comm]; exact h)
  simp only [roundDiv]
  split
  · rename_i hr
    by_contra hlt
    have heq : n / d = v := by omega
    have : d * v = v * d := Nat.mul_comm d v
    rw [heq] at hdm
    omega
  · omega

/-- Rounding keeps an integer. -/
theorem roundDiv_mul {v d : Nat} (hd : 0 < d) : roundDiv (v * d) d = v :=
  Nat.le_antisymm (roundDiv_le hd (Nat.le_refl _)) (le_roundDiv hd (Nat.le_refl _))

/-- The quotient, or one more. -/
theorem roundDiv_bounds (n d : Nat) : n / d ≤ roundDiv n d ∧ roundDiv n d ≤ n / d + 1 := by
  simp only [roundDiv]
  split <;> omega

/-! ### Rounding to 53 significant bits -/

theorem log2Below_eq (k n : Nat) (h : n < 2 ^ 2 ^ k) : log2Below k n = Nat.log2 n := by
  induction k generalizing n with
  | zero =>
    have : n = 0 ∨ n = 1 := by simp at h; omega
    rcases this with rfl | rfl <;> rfl
  | succ k ih =>
    rw [log2Below, Nat.one_shiftLeft]
    split
    · exact ih n ‹_›
    · have hk : 2 ^ 2 ^ k ≤ n := by omega
      have hp : 0 < 2 ^ 2 ^ k := by positivity
      have hlt : n / 2 ^ 2 ^ k < 2 ^ 2 ^ k := by
        rw [Nat.div_lt_iff_lt_mul hp, ← pow_add]
        rwa [pow_succ, Nat.mul_two] at h
      have hne : n / 2 ^ 2 ^ k ≠ 0 := by
        have := Nat.div_pos hk hp
        omega
      rw [Nat.shiftRight_eq_div_pow, ih _ hlt]
      symm
      rw [Nat.log2_eq_iff (by omega)]
      constructor
      · rw [pow_add, Nat.mul_comm]
        exact (Nat.le_div_iff_mul_le hp).1 (Nat.log2_self_le hne)
      · rw [Nat.add_assoc, pow_add, Nat.mul_comm]
        exact (Nat.div_lt_iff_lt_mul hp).1 Nat.lt_log2_self

theorem leadingBit_eq (n : Nat) : leadingBit n = Nat.log2 n := by
  unfold leadingBit
  split
  · rename_i h
    rw [Nat.one_shiftLeft] at h
    exact log2Below_eq 12 n h
  · rfl

/-- The rounding shift leaves at least 53 bits in front, where it shifts at all. -/
theorem shift_lower {q : Nat} (h : 0 < Nat.log2 q - 52) : 2 ^ 52 * 2 ^ (Nat.log2 q - 52) ≤ q := by
  have hq : q ≠ 0 := by
    rintro rfl
    simp [Nat.log2] at h
  have := Nat.log2_self_le hq
  rw [← pow_add]
  have h52 : 52 + (Nat.log2 q - 52) = Nat.log2 q := by omega
  rwa [h52]

/-- The rounding shift leaves at most 53 bits in front. -/
theorem shift_upper (q : Nat) : q < 2 ^ 53 * 2 ^ (Nat.log2 q - 52) := by
  have h : q < 2 ^ (Nat.log2 q + 1) := Nat.lt_log2_self
  rw [← pow_add]
  exact lt_of_lt_of_le h (Nat.pow_le_pow_right (by norm_num) (by omega))

/-- Rounding is at least any representable value not above the exact one. -/
theorem le_roundMagnitude {m k n d : Nat} (hd : 0 < d) (hm : m < 2 ^ 53) (hk : k = 0 ∨ 2 ^ 52 ≤ m)
    (hcap : m + k * 2 ^ 52 ≤ 2047 * 2 ^ 52) (h : m * 2 ^ k * d ≤ n) : m + k * 2 ^ 52 ≤ roundMagnitude n d := by
  have hq : m * 2 ^ k ≤ n / d := (Nat.le_div_iff_mul_le hd).2 h
  simp only [roundMagnitude, leadingBit_eq, Nat.shiftLeft_eq]
  refine le_min hcap ?_
  have hlow := shift_lower (q := n / d)
  have hks : k ≤ Nat.log2 (n / d) - 52 := by
    rcases hk with rfl | hk
    · omega
    · have h1 : 2 ^ (52 + k) ≤ n / d := by
        rw [pow_add]
        exact le_trans (Nat.mul_le_mul_right _ hk) hq
      have h0 : n / d ≠ 0 := by
        have : 0 < 2 ^ (52 + k) := by positivity
        omega
      have h2 := (Nat.le_log2 h0).2 h1
      omega
  generalize Nat.log2 (n / d) - 52 = s at hlow hks
  have hd' : 0 < d * 2 ^ s := Nat.mul_pos hd (by positivity)
  rcases Nat.eq_or_lt_of_le hks with rfl | hlt
  · have : m ≤ roundDiv n (d * 2 ^ k) := le_roundDiv hd' (by
      calc m * (d * 2 ^ k) = m * 2 ^ k * d := by ring
        _ ≤ n := h)
    omega
  · have h52 : 2 ^ 52 ≤ roundDiv n (d * 2 ^ s) := le_roundDiv hd' (by
      calc 2 ^ 52 * (d * 2 ^ s) = 2 ^ 52 * 2 ^ s * d := by ring
        _ ≤ n / d * d := Nat.mul_le_mul_right _ (hlow (by omega))
        _ ≤ n := Nat.div_mul_le_self n d)
    omega

/-- Rounding is at most any representable value not below the exact one. -/
theorem roundMagnitude_le {m k n d : Nat} (hd : 0 < d) (hm : m < 2 ^ 53) (hk : k = 0 ∨ 2 ^ 52 ≤ m)
    (h : n ≤ m * 2 ^ k * d) : roundMagnitude n d ≤ m + k * 2 ^ 52 := by
  have hq : n / d ≤ m * 2 ^ k := Nat.div_le_of_le_mul (by rw [Nat.mul_comm]; exact h)
  simp only [roundMagnitude, leadingBit_eq, Nat.shiftLeft_eq]
  refine min_le_of_right_le ?_
  have hup := shift_upper (n / d)
  have hlow := shift_lower (q := n / d)
  have hsk : Nat.log2 (n / d) - 52 ≤ k := by
    by_contra hc
    have h1 := hlow (by omega)
    have h2 : 2 ^ 52 * 2 ^ (k + 1) ≤ 2 ^ 52 * 2 ^ (Nat.log2 (n / d) - 52) :=
      Nat.mul_le_mul_left _ (Nat.pow_le_pow_right (by norm_num) (by omega))
    have h3 : m * 2 ^ k < 2 ^ 53 * 2 ^ k := Nat.mul_lt_mul_of_pos_right hm (by positivity)
    rw [pow_succ] at h2
    omega
  generalize Nat.log2 (n / d) - 52 = s at hup hlow hsk
  have hd' : 0 < d * 2 ^ s := Nat.mul_pos hd (by positivity)
  rcases Nat.eq_or_lt_of_le hsk with rfl | hlt
  · have : roundDiv n (d * 2 ^ s) ≤ m := roundDiv_le hd' (by
      calc n ≤ m * 2 ^ s * d := h
        _ = m * (d * 2 ^ s) := by ring)
    omega
  · have h53 : roundDiv n (d * 2 ^ s) ≤ 2 ^ 53 := roundDiv_le hd' (by
      have : n < (n / d + 1) * d := by
        have := Nat.lt_mul_div_succ n hd
        rwa [Nat.mul_comm] at this
      calc n ≤ (n / d + 1) * d := this.le
        _ ≤ 2 ^ 53 * 2 ^ s * d := Nat.mul_le_mul_right _ (by omega)
        _ = 2 ^ 53 * (d * 2 ^ s) := by ring)
    have : 2 ^ 52 ≤ m := by rcases hk with rfl | hk <;> omega
    omega

/-- Rounding keeps a representable value. -/
theorem roundMagnitude_exact {m k d : Nat} (hd : 0 < d) (hm : m < 2 ^ 53) (hk : k = 0 ∨ 2 ^ 52 ≤ m)
    (hcap : m + k * 2 ^ 52 ≤ 2047 * 2 ^ 52) : roundMagnitude (m * 2 ^ k * d) d = m + k * 2 ^ 52 :=
  Nat.le_antisymm (roundMagnitude_le hd hm hk (Nat.le_refl _)) (le_roundMagnitude hd hm hk hcap (Nat.le_refl _))

/-- Rounding never passes infinity. -/
theorem roundMagnitude_le_inf (n d : Nat) : roundMagnitude n d ≤ 2047 * 2 ^ 52 := min_le_left _ _

/-! ### Bits and values -/

/-- The significand of a finite magnitude's bits. -/
def significand (bits : Nat) : Nat := if bits / 2 ^ 52 = 0 then bits % 2 ^ 52 else 2 ^ 52 + bits % 2 ^ 52

/-- Every pattern of magnitude bits is representable: significand and shift. -/
theorem bits_representable (bits : Nat) :
    significand bits < 2 ^ 53 ∧ (bits / 2 ^ 52 - 1 = 0 ∨ 2 ^ 52 ≤ significand bits) ∧
      significand bits + (bits / 2 ^ 52 - 1) * 2 ^ 52 = bits := by
  unfold significand
  split <;> omega

/-- The magnitude a pattern of magnitude bits stands for. -/
def magnitudeOfBits (bits : Nat) : Nat := significand bits * 2 ^ (bits / 2 ^ 52 - 1)

/-- The magnitude of a value, read from its bits without the sign. -/
theorem f64Magnitude_eq (x : Binary64) (h : x.toNat < 2 ^ 63) : f64Magnitude x = magnitudeOfBits x.toNat := by
  have hexp : f64Exponent x = x.toNat / 2 ^ 52 := by
    unfold f64Exponent
    omega
  unfold f64Magnitude magnitudeOfBits significand f64Fraction
  rw [hexp]
  by_cases hz : x.toNat / 2 ^ 52 = 0
  · rw [if_pos hz, if_pos hz, hz, Nat.zero_sub, Nat.pow_zero, Nat.mul_one]
  · rw [if_neg hz, if_neg hz, Nat.shiftLeft_eq]

/-- A magnitude packed with a sign is read back. -/
theorem f64Pack_toNat {neg : Bool} {mag : Nat} (h : mag ≤ 2047 * 2 ^ 52) :
    (f64Pack neg mag).toNat = mag + if neg then 2 ^ 63 else 0 := by
  unfold f64Pack
  rw [BitVec.toNat_ofNat]
  split <;> omega

/-- Rounding the magnitude of a finite pattern gives the pattern back. -/
theorem roundMagnitude_of_bits {bits : Nat} (h : bits < 2047 * 2 ^ 52) :
    roundMagnitude (magnitudeOfBits bits) 1 = bits := by
  obtain ⟨h1, h2, h3⟩ := bits_representable bits
  have := roundMagnitude_exact (d := 1) (by norm_num) h1 h2 (by omega)
  rw [Nat.mul_one] at this
  rw [magnitudeOfBits, this, h3]

/-- The order of the bits is the order of the magnitudes. -/
theorem bits_le_of_magnitude_le {a b : Nat} (ha : a < 2047 * 2 ^ 52)
    (h : magnitudeOfBits a ≤ magnitudeOfBits b) : a ≤ b := by
  obtain ⟨h1, h2, h3⟩ := bits_representable b
  have := roundMagnitude_le (d := 1) (by norm_num) h1 h2 (n := magnitudeOfBits a) (by rw [Nat.mul_one]; exact h)
  rw [roundMagnitude_of_bits ha] at this
  omega

/-- The bits in order, the magnitudes in order. -/
theorem magnitude_le_of_bits_le {a b : Nat} (hb : b < 2047 * 2 ^ 52) (h : a ≤ b) :
    magnitudeOfBits a ≤ magnitudeOfBits b := by
  by_contra hc
  have := bits_le_of_magnitude_le hb (show magnitudeOfBits b ≤ magnitudeOfBits a by omega)
  have : a = b := by omega
  subst this
  omega

/-! ### The rounding error -/

/-- Rounding to an integer is off by at most half. -/
theorem roundDiv_error {n d : Nat} (hd : 0 < d) :
    2 * n ≤ 2 * (roundDiv n d * d) + d ∧ 2 * (roundDiv n d * d) ≤ 2 * n + d := by
  have hdm := Nat.div_add_mod' n d
  have hmod := Nat.mod_lt n hd
  simp only [roundDiv]
  split
  · have : (n / d + 1) * d = n / d * d + d := by ring
    omega
  · omega

/-- The magnitude of a significand and a shift, also where the significand has carried to 54 bits. -/
theorem magnitudeOfBits_add {q s : Nat} (hq : q ≤ 2 ^ 53) (hs : s = 0 ∨ 2 ^ 52 ≤ q) :
    magnitudeOfBits (q + s * 2 ^ 52) = q * 2 ^ s := by
  unfold magnitudeOfBits significand
  rcases Nat.lt_or_ge q (2 ^ 52) with h | h
  · have : s = 0 := by omega
    subst this
    rw [if_pos (by omega), show (q + 0 * 2 ^ 52) / 2 ^ 52 = 0 by omega, show (q + 0 * 2 ^ 52) % 2 ^ 52 = q by omega,
      Nat.zero_sub]
  · by_cases hq2 : q = 2 ^ 53
    · rw [show (q + s * 2 ^ 52) / 2 ^ 52 = s + 2 by omega, show (q + s * 2 ^ 52) % 2 ^ 52 = 0 by omega,
        if_neg (by omega), show s + 2 - 1 = s + 1 by omega, hq2, Nat.add_zero, ← pow_add, ← pow_add]
      congr 1
      omega
    · rw [show (q + s * 2 ^ 52) / 2 ^ 52 = s + 1 by omega, show (q + s * 2 ^ 52) % 2 ^ 52 = q - 2 ^ 52 by omega,
        if_neg (by omega), show s + 1 - 1 = s by omega, show 2 ^ 52 + (q - 2 ^ 52) = q by omega]

/-- Rounding a magnitude below `2 ^ (53 + e)` units is off by at most half of `2 ^ e` units. -/
theorem roundMagnitude_error {n e : Nat} (he : e ≤ 2045) (h : n < 2 ^ 53 * 2 ^ e) :
    2 * n ≤ 2 * magnitudeOfBits (roundMagnitude n 1) + 2 ^ e ∧
      2 * magnitudeOfBits (roundMagnitude n 1) ≤ 2 * n + 2 ^ e := by
  have hlow := shift_lower (q := n)
  have hup := shift_upper n
  have hse : Nat.log2 n - 52 ≤ e := by
    by_contra hc
    have h1 := hlow (by omega)
    have h2 : 2 ^ 52 * 2 ^ (e + 1) ≤ 2 ^ 52 * 2 ^ (Nat.log2 n - 52) :=
      Nat.mul_le_mul_left _ (Nat.pow_le_pow_right (by norm_num) (by omega))
    rw [pow_succ] at h2
    omega
  have heq : roundMagnitude n 1 = min (2047 * 2 ^ 52)
      (roundDiv n (2 ^ (Nat.log2 n - 52)) + (Nat.log2 n - 52) * 2 ^ 52) := by
    simp only [roundMagnitude, leadingBit_eq, Nat.shiftLeft_eq, Nat.div_one, Nat.one_mul]
  rw [heq]
  generalize Nat.log2 n - 52 = s at hlow hup hse
  have hpos : 0 < 2 ^ s := by positivity
  have hq : roundDiv n (2 ^ s) ≤ 2 ^ 53 := roundDiv_le hpos hup.le
  have hs : s = 0 ∨ 2 ^ 52 ≤ roundDiv n (2 ^ s) := by
    rcases Nat.eq_zero_or_pos s with h0 | h0
    · exact .inl h0
    · exact .inr (le_roundDiv hpos (hlow h0))
  rw [Nat.min_eq_right (by omega), magnitudeOfBits_add hq hs]
  have herr := roundDiv_error (n := n) hpos
  have hpow : 2 ^ s ≤ 2 ^ e := Nat.pow_le_pow_right (by norm_num) hse
  omega

/-- Adding two finite values that are not negative, with a sum below `2 ^ (53 + e)` units: the result is finite, not
negative, and off by at most half of `2 ^ e` units. -/
theorem fadd_error {x y : Binary64} {e : Nat} (he : e ≤ 2044) (hx : f64IsFinite x = true) (hy : f64IsFinite y = true)
    (hx0 : 0 ≤ f64Units x) (hy0 : 0 ≤ f64Units y) (h : f64Units x + f64Units y < 2 ^ 53 * 2 ^ e) :
    f64IsFinite (fadd x y) = true ∧ 0 ≤ f64Units (fadd x y) ∧
      2 * |f64Units (fadd x y) - (f64Units x + f64Units y)| ≤ 2 ^ e := by
  have ex : f64Exponent x ≠ 2047 := by simpa [f64IsFinite] using hx
  have ey : f64Exponent y ≠ 2047 := by simpa [f64IsFinite] using hy
  have hpow : (0 : Int) < 2 ^ e := by positivity
  unfold fadd
  rw [if_neg (by simp [f64IsNaN, ex, ey]), if_neg (by simp [f64IsInf, ex]), if_neg (by simp [f64IsInf, ey])]
  by_cases hz : f64Units x + f64Units y = 0
  · rw [if_pos hz, hz]
    have hu : ∀ b, f64IsFinite (f64Pack b 0) = true ∧ f64Units (f64Pack b 0) = 0 := by decide
    rw [(hu _).1, (hu _).2]
    simp
  · rw [if_neg hz]
    obtain ⟨n, hn⟩ := Int.eq_ofNat_of_zero_le (show 0 ≤ f64Units x + f64Units y by omega)
    rw [hn] at h hz ⊢
    have hlt : n < 2 ^ 53 * 2 ^ e := by exact_mod_cast h
    obtain ⟨h1, h2⟩ := roundMagnitude_error (by omega) hlt
    have hle := roundMagnitude_le (n := n) (m := 2 ^ 52) (k := e + 1) (d := 1) (by norm_num) (by norm_num) (.inr (by norm_num))
      (by rw [pow_succ]; omega)
    have hp : (f64OfUnits (n : Int)).toNat = roundMagnitude n 1 := by
      unfold f64OfUnits
      rw [f64Pack_toNat (roundMagnitude_le_inf _ _)]
      simp
    have hfin : f64IsFinite (f64OfUnits (n : Int)) = true := by
      simp only [f64IsFinite, f64Exponent, hp, bne_iff_ne]
      omega
    have hmsb : (f64OfUnits (n : Int)).msb = false := by
      rw [BitVec.msb_eq_decide, hp]
      simp
      omega
    have hun : f64Units (f64OfUnits (n : Int)) = (magnitudeOfBits (roundMagnitude n 1) : Int) := by
      rw [f64Units, hmsb, f64Magnitude_eq _ (by omega), hp]
      simp
    refine ⟨hfin, by omega, ?_⟩
    rw [hun]
    have h1' : (2 : Int) * n ≤ 2 * (magnitudeOfBits (roundMagnitude n 1) : Int) + 2 ^ e := by exact_mod_cast h1
    have h2' : (2 : Int) * (magnitudeOfBits (roundMagnitude n 1) : Int) ≤ 2 * n + 2 ^ e := by exact_mod_cast h2
    rcases abs_cases ((magnitudeOfBits (roundMagnitude n 1) : Int) - n) with h | h <;> omega

end Sys2Proof.Machine
end

