-- ==== Sys2Proof/Laws/State.lean ====
section
/-! SUPPORT. One lemma per field of `State` per shared update, true by `rfl` and simp, so that no proof unfolds a record
update; and the same for a channel's record under `mapDma`. -/

namespace Sys2Proof.Machine

variable (s : State)

@[simp] theorem emit_params (e : Event) : (emit e s).params = s.params := rfl
@[simp] theorem emit_block (e : Event) : (emit e s).block = s.block := rfl
@[simp] theorem emit_hasReset (e : Event) : (emit e s).hasReset = s.hasReset := rfl
@[simp] theorem emit_memory (e : Event) : (emit e s).memory = s.memory := rfl
@[simp] theorem emit_dspWords (e : Event) : (emit e s).dspWords = s.dspWords := rfl
@[simp] theorem emit_draws (e : Event) : (emit e s).draws = s.draws := rfl
@[simp] theorem emit_stream (e : Event) : (emit e s).stream = s.stream := rfl
@[simp] theorem emit_events (e : Event) : (emit e s).events = s.events ++ [e] := rfl
@[simp] theorem emit_results (e : Event) : (emit e s).results = s.results := rfl

@[simp] theorem giveResult_params (r : Result) : (giveResult r s).params = s.params := rfl
@[simp] theorem giveResult_block (r : Result) : (giveResult r s).block = s.block := rfl
@[simp] theorem giveResult_hasReset (r : Result) : (giveResult r s).hasReset = s.hasReset := rfl
@[simp] theorem giveResult_memory (r : Result) : (giveResult r s).memory = s.memory := rfl
@[simp] theorem giveResult_dspWords (r : Result) : (giveResult r s).dspWords = s.dspWords := rfl
@[simp] theorem giveResult_draws (r : Result) : (giveResult r s).draws = s.draws := rfl
@[simp] theorem giveResult_stream (r : Result) : (giveResult r s).stream = s.stream := rfl
@[simp] theorem giveResult_events (r : Result) : (giveResult r s).events = s.events := rfl
@[simp] theorem giveResult_results (r : Result) : (giveResult r s).results = s.results ++ [r] := rfl

@[simp] theorem countDraw_params : (countDraw s).params = s.params := rfl
@[simp] theorem countDraw_block : (countDraw s).block = s.block := rfl
@[simp] theorem countDraw_hasReset : (countDraw s).hasReset = s.hasReset := rfl
@[simp] theorem countDraw_memory : (countDraw s).memory = s.memory := rfl
@[simp] theorem countDraw_dspWords : (countDraw s).dspWords = s.dspWords := rfl
@[simp] theorem countDraw_draws : (countDraw s).draws = s.draws + 1 := rfl
@[simp] theorem countDraw_stream : (countDraw s).stream = s.stream := rfl
@[simp] theorem countDraw_events : (countDraw s).events = s.events := rfl
@[simp] theorem countDraw_results : (countDraw s).results = s.results := rfl

@[simp] theorem updBlock_params (f : Block → Block) : (updBlock f s).params = s.params := rfl
@[simp] theorem updBlock_block (f : Block → Block) : (updBlock f s).block = f s.block := rfl
@[simp] theorem updBlock_hasReset (f : Block → Block) : (updBlock f s).hasReset = s.hasReset := rfl
@[simp] theorem updBlock_memory (f : Block → Block) : (updBlock f s).memory = s.memory := rfl
@[simp] theorem updBlock_dspWords (f : Block → Block) : (updBlock f s).dspWords = s.dspWords := rfl
@[simp] theorem updBlock_draws (f : Block → Block) : (updBlock f s).draws = s.draws := rfl
@[simp] theorem updBlock_stream (f : Block → Block) : (updBlock f s).stream = s.stream := rfl
@[simp] theorem updBlock_events (f : Block → Block) : (updBlock f s).events = s.events := rfl
@[simp] theorem updBlock_results (f : Block → Block) : (updBlock f s).results = s.results := rfl

@[simp] theorem updDma_params (ch : Chan) (f : DmaChannel → DmaChannel) : (updDma ch f s).params = s.params := rfl
@[simp] theorem updDma_block (ch : Chan) (f : DmaChannel → DmaChannel) : (updDma ch f s).block = mapDma ch f s.block := rfl
@[simp] theorem updDma_hasReset (ch : Chan) (f : DmaChannel → DmaChannel) : (updDma ch f s).hasReset = s.hasReset := rfl
@[simp] theorem updDma_memory (ch : Chan) (f : DmaChannel → DmaChannel) : (updDma ch f s).memory = s.memory := rfl
@[simp] theorem updDma_dspWords (ch : Chan) (f : DmaChannel → DmaChannel) : (updDma ch f s).dspWords = s.dspWords := rfl
@[simp] theorem updDma_draws (ch : Chan) (f : DmaChannel → DmaChannel) : (updDma ch f s).draws = s.draws := rfl
@[simp] theorem updDma_stream (ch : Chan) (f : DmaChannel → DmaChannel) : (updDma ch f s).stream = s.stream := rfl
@[simp] theorem updDma_events (ch : Chan) (f : DmaChannel → DmaChannel) : (updDma ch f s).events = s.events := rfl
@[simp] theorem updDma_results (ch : Chan) (f : DmaChannel → DmaChannel) : (updDma ch f s).results = s.results := rfl

@[simp] theorem updRaw_params (f : RawRegs → RawRegs) : (updRaw f s).params = s.params := rfl
@[simp] theorem updRaw_block (f : RawRegs → RawRegs) : (updRaw f s).block = { s.block with raw := f s.block.raw } := rfl
@[simp] theorem updRaw_hasReset (f : RawRegs → RawRegs) : (updRaw f s).hasReset = s.hasReset := rfl
@[simp] theorem updRaw_memory (f : RawRegs → RawRegs) : (updRaw f s).memory = s.memory := rfl
@[simp] theorem updRaw_dspWords (f : RawRegs → RawRegs) : (updRaw f s).dspWords = s.dspWords := rfl
@[simp] theorem updRaw_draws (f : RawRegs → RawRegs) : (updRaw f s).draws = s.draws := rfl
@[simp] theorem updRaw_stream (f : RawRegs → RawRegs) : (updRaw f s).stream = s.stream := rfl
@[simp] theorem updRaw_events (f : RawRegs → RawRegs) : (updRaw f s).events = s.events := rfl
@[simp] theorem updRaw_results (f : RawRegs → RawRegs) : (updRaw f s).results = s.results := rfl

/-! ### Arrival of a stream entry -/

@[simp] theorem arrive_params (op : Operation) (rest : List Operation) : (arrive op rest s).params = s.params := rfl
@[simp] theorem arrive_block (op : Operation) (rest : List Operation) : (arrive op rest s).block = s.block := rfl
@[simp] theorem arrive_hasReset (op : Operation) (rest : List Operation) : (arrive op rest s).hasReset = s.hasReset := rfl
@[simp] theorem arrive_memory (op : Operation) (rest : List Operation) : (arrive op rest s).memory = memStores s.memory op.stores := rfl
@[simp] theorem arrive_dspWords (op : Operation) (rest : List Operation) : (arrive op rest s).dspWords = s.dspWords ++ op.dspWords := rfl
@[simp] theorem arrive_draws (op : Operation) (rest : List Operation) : (arrive op rest s).draws = s.draws := rfl
@[simp] theorem arrive_stream (op : Operation) (rest : List Operation) : (arrive op rest s).stream = rest := rfl
@[simp] theorem arrive_events (op : Operation) (rest : List Operation) : (arrive op rest s).events = s.events := rfl
@[simp] theorem arrive_results (op : Operation) (rest : List Operation) : (arrive op rest s).results = s.results := rfl

/-! ### A channel's record and an oscillator's counters -/

@[simp] theorem dmaOf_mapDma_same (ch : Chan) (f : DmaChannel → DmaChannel) (b : Block) :
    dmaOf ch (mapDma ch f b) = f (dmaOf ch b) := by cases ch <;> rfl

theorem dmaOf_mapDma_other {ch ch' : Chan} (h : ch ≠ ch') (f : DmaChannel → DmaChannel) (b : Block) :
    dmaOf ch (mapDma ch' f b) = dmaOf ch b := by cases ch <;> cases ch' <;> first | rfl | exact absurd rfl h

@[simp] theorem oscOf_setOsc_same (x : OscId) (o : Osc) (b : Block) : oscOf x (setOsc x o b) = o := by cases x <;> rfl

theorem oscOf_setOsc_other {x y : OscId} (h : x ≠ y) (o : Osc) (b : Block) : oscOf x (setOsc y o b) = oscOf x b := by
  cases x <;> cases y <;> first | rfl | exact absurd rfl h

@[simp] theorem dmaOf_play (b : Block) : dmaOf .play b = b.playDma := rfl
@[simp] theorem dmaOf_record (b : Block) : dmaOf .record b = b.recDma := rfl
@[simp] theorem mapDma_play (f : DmaChannel → DmaChannel) (b : Block) :
    mapDma .play f b = { b with playDma := f b.playDma } := rfl
@[simp] theorem mapDma_record (f : DmaChannel → DmaChannel) (b : Block) :
    mapDma .record f b = { b with recDma := f b.recDma } := rfl
@[simp] theorem tracksOf_play (b : Block) : tracksOf .play b = b.playTracks := rfl
@[simp] theorem tracksOf_record (b : Block) : tracksOf .record b = b.recordTracks := rfl
@[simp] theorem latchedStart_play (b : Block) : latchedStart .play b = b.latchedStartPlay := rfl
@[simp] theorem latchedStart_record (b : Block) : latchedStart .record b = b.latchedStartRec := rfl
@[simp] theorem latchedEnd_play (b : Block) : latchedEnd .play b = b.latchedEndPlay := rfl
@[simp] theorem latchedEnd_record (b : Block) : latchedEnd .record b = b.latchedEndRec := rfl

/-! ### How an operation begins and ends -/

/-- An operation that is ready runs. -/
theorem whenReady_of_ready {s : State} (hp : paramsValid s.params = true) (hr : s.hasReset = true) (k : Out) :
    whenReady s k = k := by simp [whenReady, hp, hr]

/-- If an operation answers a next state, it was ready. -/
theorem whenReady_next {s t : State} {k : Out} (h : whenReady s k = .next t) :
    paramsValid s.params = true ∧ s.hasReset = true ∧ k = .next t := by
  unfold whenReady at h
  split at h
  · cases h
  · split at h
    · cases h
    · simp_all

/-- A reset runs when the parameters are valid. -/
theorem whenValid_of_valid {s : State} (hp : paramsValid s.params = true) (k : Out) : whenValid s k = k := by
  simp [whenValid, hp]

/-- If a reset answers a next state, the parameters were valid. -/
theorem whenValid_next {s t : State} {k : Out} (h : whenValid s k = .next t) :
    paramsValid s.params = true ∧ k = .next t := by
  unfold whenValid at h
  split at h
  · cases h
  · simp_all

@[simp] theorem finish_ok (t : State) : finish (.ok t) = .next t := rfl

@[simp] theorem finish_error (r : Refusal) : finish (.error r) = .refused r := rfl

/-- An operation ends in a next state exactly when nothing was refused on the way. -/
theorem finish_next {r : Except Refusal State} {t : State} : finish r = .next t ↔ r = .ok t := by
  cases r <;> simp [finish]

end Sys2Proof.Machine
end

