-- ==== Sys2Proof/Laws/Bus.lean ====
section
/-! SUPPORT. The byte forms of all 64 rows at once: a byte write is `writeRow` (`write8` through the layout table) and a
byte read is `rowByte` and `rowRead`, so no proof about bus accesses splits the opcode table. -/

namespace Sys2Proof.Machine

/-- The byte write of a row is its `writeRow` (40 R400). -/
theorem exec_byteWriteForm (row : Offset) (d : Byte) (s : State) :
    exec (byteWriteForm row d) s = whenReady s (finish (writeRow row d s)) := by
  obtain ⟨n⟩ := row
  fin_cases n <;> rfl

/-- The byte read of a row returns its `rowByte` (41 R500). -/
theorem exec_byteReadForm (row : Offset) (s : State) :
    exec (byteReadForm row) s = whenReady s (.next (giveResult (.byte (rowByte row s)) (rowRead row s))) := by
  obtain ⟨n⟩ := row
  fin_cases n <;> rfl

/-- The byte write that a descriptor of offset `o` names is `Write8(o, d)`. -/
theorem exec_byteWriteForm_rowAt (o : Offset) (d : Byte) (s : State) :
    exec (byteWriteForm (rowAt s.params.layout o) d) s = whenReady s (finish (write8 o d s)) :=
  exec_byteWriteForm _ d s

/-- The byte read that a descriptor of offset `o` names returns `Read8(o)`. -/
theorem exec_byteReadForm_rowAt (o : Offset) (s : State) :
    exec (byteReadForm (rowAt s.params.layout o)) s =
      whenReady s (.next (giveResult (.byte (regByte o s)) (regRead o s))) :=
  exec_byteReadForm _ s

/-- A byte write other than one of the low frame-counter byte is never refused by its handler. -/
theorem writeRow_ok {row : Offset} (h : row ≠ 0x0D#6) (d : Byte) (s : State) : ∃ t, writeRow row d s = .ok t := by
  obtain ⟨n⟩ := row
  fin_cases n <;> first | exact absurd rfl h | exact ⟨_, rfl⟩

/-- A write of the low frame-counter byte is refused exactly when PLAY is selected and the parameter says so (40 R408). -/
theorem writeRow_countLo (d : Byte) (s : State) :
    writeRow 0x0D#6 d s =
      if s.block.dmaSelected || s.params.frameCountLowPlay == .ignore then
        .ok (updRaw (fun r => { r with countLo := d }) s)
      else .error .unmodelledFrameCountWrite := rfl

/-- What a byte write does to the conditions a later byte write may be refused by: it keeps the parameters and the
reset flag, and of all rows only the DMA-control byte sets the selected channel. -/
theorem writeRow_frame {row : Offset} {d : Byte} {s t : State} (h : writeRow row d s = .ok t) :
    t.params = s.params ∧ t.hasReset = s.hasReset ∧
      t.block.dmaSelected = if row = 0x01#6 then d.getLsbD s.params.layout.dmaSelect else s.block.dmaSelected := by
  have edge : ∀ ch run u, (runEdge ch run u).params = u.params ∧ (runEdge ch run u).hasReset = u.hasReset ∧
      (runEdge ch run u).block.raw = u.block.raw := by
    intro ch run u
    unfold runEdge startChannel loadFrame
    dsimp only
    repeat' split
    all_goals exact ⟨rfl, rfl, by cases ch <;> rfl⟩
  have latch : ∀ b : Block, (latchStart b).dmaSelected = b.dmaSelected ∧ (latchEnd b).dmaSelected = b.dmaSelected := by
    intro b
    unfold latchStart latchEnd
    constructor <;> split <;> rfl
  by_cases hlo : row = 0x0D#6
  · subst hlo
    rw [writeRow_countLo] at h
    split at h <;> cases h
    exact ⟨rfl, rfl, rfl⟩
  · obtain ⟨n⟩ := row
    fin_cases n
    all_goals
      first
      | exact absurd rfl hlo
      | cases h
        first
        | exact ⟨rfl, rfl, rfl⟩
        | exact ⟨rfl, rfl, (latch _).1⟩
        | exact ⟨rfl, rfl, (latch _).2⟩
        | exact ⟨(edge _ _ _).1.trans (edge _ _ _).1, (edge _ _ _).2.1.trans (edge _ _ _).2.1, by
            simp [storeDmaControl, decodeDmaControl, dmaSelectField, (edge _ _ _).2.2]⟩

/-- A byte read changes only the count of draws. -/
theorem regRead_frame (o : Offset) (s : State) : ∃ n, regRead o s = { s with draws := n } := by
  unfold regRead rowRead
  split
  · exact ⟨s.draws, rfl⟩
  · exact ⟨s.draws + 1, rfl⟩

/-- The value of a byte read depends on the block, the layout table and the count of draws alone. -/
theorem regByte_congr {s t : State} (h : t.block = s.block) (hp : t.params = s.params) (hd : t.draws = s.draws)
    (o : Offset) : regByte o t = regByte o s := by
  unfold regByte rowByte drawnByte
  rw [h, hp, hd]

/-- Every byte form stands at its row in `writeForms`. -/
theorem encode_byteWriteForm (base : Addr) (l : Layout) (row : Offset) (d : Byte) :
    encode base l (byteWriteForm row d) = encodeByteWrite base l row d := by
  obtain ⟨n⟩ := row
  fin_cases n <;> rfl

/-- Every byte form stands at its row in `readForms`. -/
theorem encode_byteReadForm (base : Addr) (l : Layout) (row : Offset) :
    encode base l (byteReadForm row) = encodeByteRead base l row := by
  obtain ⟨n⟩ := row
  fin_cases n <;> rfl

/-- To prove something of every operation it is enough to prove it of the byte write and the byte read of every row,
and of the eighteen other forms. -/
theorem instr_byForms {P : Instr → Prop} (byteWrite : ∀ o d, P (byteWriteForm o d)) (byteRead : ∀ o, P (byteReadForm o))
    (wwEven : ∀ o d, P (.wwEven o d)) (wwOdd : ∀ o d, P (.wwOdd o d)) (wlEven : ∀ o d, P (.wlEven o d))
    (wlOdd : ∀ o d, P (.wlOdd o d)) (rwEven : ∀ o, P (.rwEven o)) (rwOdd : ∀ o, P (.rwOdd o))
    (rlEven : ∀ o, P (.rlEven o)) (rlOdd : ∀ o, P (.rlOdd o)) (fireA : ∀ e, P (.fireA e)) (fireB : ∀ e, P (.fireB e))
    (fsoPlay : P .fsoPlay) (fsoRec : P .fsoRec) (drain : ∀ mix, P (.drain mix)) (mic : ∀ l, P (.mic l))
    (resetCold : P .resetCold) (resetWarm : P .resetWarm) (capture : P .capture) (restore : ∀ b, P (.restore b))
    (i : Instr) : P i := by
  cases i
  case wwEven o d => exact wwEven o d
  case wwOdd o d => exact wwOdd o d
  case wlEven o d => exact wlEven o d
  case wlOdd o d => exact wlOdd o d
  case rwEven o => exact rwEven o
  case rwOdd o => exact rwOdd o
  case rlEven o => exact rlEven o
  case rlOdd o => exact rlOdd o
  case fireA e => exact fireA e
  case fireB e => exact fireB e
  case fsoPlay => exact fsoPlay
  case fsoRec => exact fsoRec
  case drain mix => exact drain mix
  case mic l => exact mic l
  case resetCold => exact resetCold
  case resetWarm => exact resetWarm
  case capture => exact capture
  case restore b => exact restore b
  case wb00IntEnable d => exact byteWrite 0x00 d
  case wb01DmaControl d => exact byteWrite 0x01 d
  case wb03FrameStartHi d => exact byteWrite 0x03 d
  case wb05FrameStartMid d => exact byteWrite 0x05 d
  case wb07FrameStartLo d => exact byteWrite 0x07 d
  case wb09FrameCountHi d => exact byteWrite 0x09 d
  case wb0BFrameCountMid d => exact byteWrite 0x0B d
  case wb0DFrameCountLo d => exact byteWrite 0x0D d
  case wb0FFrameEndHi d => exact byteWrite 0x0F d
  case wb11FrameEndMid d => exact byteWrite 0x11 d
  case wb13FrameEndLo d => exact byteWrite 0x13 d
  case wb20TrackControl d => exact byteWrite 0x20 d
  case wb21SoundMode d => exact byteWrite 0x21 d
  case wb30SrcSelHi d => exact byteWrite 0x30 d
  case wb31SrcSelLo d => exact byteWrite 0x31 d
  case wb32DstSelHi d => exact byteWrite 0x32 d
  case wb33DstSelLo d => exact byteWrite 0x33 d
  case wb34ExtDivider d => exact byteWrite 0x34 d
  case wb35IntDivider d => exact byteWrite 0x35 d
  case wb36RecTracks d => exact byteWrite 0x36 d
  case wb37CodecInput d => exact byteWrite 0x37 d
  case wb38AdcInput d => exact byteWrite 0x38 d
  case wb39Gain d => exact byteWrite 0x39 d
  case wb3AAtten0 d => exact byteWrite 0x3A d
  case wb3BAtten1 d => exact byteWrite 0x3B d
  case wb3CCodecStatusHi d => exact byteWrite 0x3C d
  case wb3DCodecStatusLo d => exact byteWrite 0x3D d
  case wb02Unassigned d => exact byteWrite 0x02 d
  case wb04Unassigned d => exact byteWrite 0x04 d
  case wb06Unassigned d => exact byteWrite 0x06 d
  case wb08Unassigned d => exact byteWrite 0x08 d
  case wb0AUnassigned d => exact byteWrite 0x0A d
  case wb0CUnassigned d => exact byteWrite 0x0C d
  case wb0EUnassigned d => exact byteWrite 0x0E d
  case wb10Unassigned d => exact byteWrite 0x10 d
  case wb12Unassigned d => exact byteWrite 0x12 d
  case wb14Unassigned d => exact byteWrite 0x14 d
  case wb15Unassigned d => exact byteWrite 0x15 d
  case wb16Unassigned d => exact byteWrite 0x16 d
  case wb17Unassigned d => exact byteWrite 0x17 d
  case wb18Unassigned d => exact byteWrite 0x18 d
  case wb19Unassigned d => exact byteWrite 0x19 d
  case wb1AUnassigned d => exact byteWrite 0x1A d
  case wb1BUnassigned d => exact byteWrite 0x1B d
  case wb1CUnassigned d => exact byteWrite 0x1C d
  case wb1DUnassigned d => exact byteWrite 0x1D d
  case wb1EUnassigned d => exact byteWrite 0x1E d
  case wb1FUnassigned d => exact byteWrite 0x1F d
  case wb22Unassigned d => exact byteWrite 0x22 d
  case wb23Unassigned d => exact byteWrite 0x23 d
  case wb24Unassigned d => exact byteWrite 0x24 d
  case wb25Unassigned d => exact byteWrite 0x25 d
  case wb26Unassigned d => exact byteWrite 0x26 d
  case wb27Unassigned d => exact byteWrite 0x27 d
  case wb28Unassigned d => exact byteWrite 0x28 d
  case wb29Unassigned d => exact byteWrite 0x29 d
  case wb2AUnassigned d => exact byteWrite 0x2A d
  case wb2BUnassigned d => exact byteWrite 0x2B d
  case wb2CUnassigned d => exact byteWrite 0x2C d
  case wb2DUnassigned d => exact byteWrite 0x2D d
  case wb2EUnassigned d => exact byteWrite 0x2E d
  case wb2FUnassigned d => exact byteWrite 0x2F d
  case wb3EUnassigned d => exact byteWrite 0x3E d
  case wb3FUnassigned d => exact byteWrite 0x3F d
  case rb00IntEnable => exact byteRead 0x00
  case rb01DmaControl => exact byteRead 0x01
  case rb03FrameStartHi => exact byteRead 0x03
  case rb05FrameStartMid => exact byteRead 0x05
  case rb07FrameStartLo => exact byteRead 0x07
  case rb09FrameCountHi => exact byteRead 0x09
  case rb0BFrameCountMid => exact byteRead 0x0B
  case rb0DFrameCountLo => exact byteRead 0x0D
  case rb0FFrameEndHi => exact byteRead 0x0F
  case rb11FrameEndMid => exact byteRead 0x11
  case rb13FrameEndLo => exact byteRead 0x13
  case rb20TrackControl => exact byteRead 0x20
  case rb21SoundMode => exact byteRead 0x21
  case rb30SrcSelHi => exact byteRead 0x30
  case rb31SrcSelLo => exact byteRead 0x31
  case rb32DstSelHi => exact byteRead 0x32
  case rb33DstSelLo => exact byteRead 0x33
  case rb34ExtDivider => exact byteRead 0x34
  case rb35IntDivider => exact byteRead 0x35
  case rb36RecTracks => exact byteRead 0x36
  case rb37CodecInput => exact byteRead 0x37
  case rb38AdcInput => exact byteRead 0x38
  case rb39Gain => exact byteRead 0x39
  case rb3AAtten0 => exact byteRead 0x3A
  case rb3BAtten1 => exact byteRead 0x3B
  case rb3CCodecStatusHi => exact byteRead 0x3C
  case rb3DCodecStatusLo => exact byteRead 0x3D
  case rb02Unassigned => exact byteRead 0x02
  case rb04Unassigned => exact byteRead 0x04
  case rb06Unassigned => exact byteRead 0x06
  case rb08Unassigned => exact byteRead 0x08
  case rb0AUnassigned => exact byteRead 0x0A
  case rb0CUnassigned => exact byteRead 0x0C
  case rb0EUnassigned => exact byteRead 0x0E
  case rb10Unassigned => exact byteRead 0x10
  case rb12Unassigned => exact byteRead 0x12
  case rb14Unassigned => exact byteRead 0x14
  case rb15Unassigned => exact byteRead 0x15
  case rb16Unassigned => exact byteRead 0x16
  case rb17Unassigned => exact byteRead 0x17
  case rb18Unassigned => exact byteRead 0x18
  case rb19Unassigned => exact byteRead 0x19
  case rb1AUnassigned => exact byteRead 0x1A
  case rb1BUnassigned => exact byteRead 0x1B
  case rb1CUnassigned => exact byteRead 0x1C
  case rb1DUnassigned => exact byteRead 0x1D
  case rb1EUnassigned => exact byteRead 0x1E
  case rb1FUnassigned => exact byteRead 0x1F
  case rb22Unassigned => exact byteRead 0x22
  case rb23Unassigned => exact byteRead 0x23
  case rb24Unassigned => exact byteRead 0x24
  case rb25Unassigned => exact byteRead 0x25
  case rb26Unassigned => exact byteRead 0x26
  case rb27Unassigned => exact byteRead 0x27
  case rb28Unassigned => exact byteRead 0x28
  case rb29Unassigned => exact byteRead 0x29
  case rb2AUnassigned => exact byteRead 0x2A
  case rb2BUnassigned => exact byteRead 0x2B
  case rb2CUnassigned => exact byteRead 0x2C
  case rb2DUnassigned => exact byteRead 0x2D
  case rb2EUnassigned => exact byteRead 0x2E
  case rb2FUnassigned => exact byteRead 0x2F
  case rb3EUnassigned => exact byteRead 0x3E
  case rb3FUnassigned => exact byteRead 0x3F

end Sys2Proof.Machine
end

