-- ==== Sys2Proof/Laws/Decode.lean ====
section
/-! SUPPORT. The fields of a descriptor as numbers, what the fields of a built descriptor are, and that a descriptor is
built from its fields: decoding and encoding proofs cite these and unfold no bit operation. -/

namespace Sys2Proof

open Machine

theorem busDescriptor_toNat (cls : BitVec 4) (size : BitVec 2) (a : Addr) :
    (busDescriptor cls size a).toNat = cls.toNat * 2 ^ 28 + size.toNat * 2 ^ 26 + a.toNat := by
  have h1 : (cls ++ size).toNat = cls.toNat * 4 + size.toNat := by
    rw [BitVec.toNat_append, ← Nat.shiftLeft_add_eq_or_of_lt size.isLt, Nat.shiftLeft_eq]
  have h2 : (cls ++ size ++ 0#2).toNat = (cls.toNat * 4 + size.toNat) * 4 := by
    rw [BitVec.toNat_append, ← Nat.shiftLeft_add_eq_or_of_lt (0#2).isLt, Nat.shiftLeft_eq, h1]; rfl
  have h3 : (cls ++ size ++ 0#2 ++ a).toNat = (cls.toNat * 4 + size.toNat) * 4 * 2 ^ 24 + a.toNat := by
    rw [BitVec.toNat_append, ← Nat.shiftLeft_add_eq_or_of_lt a.isLt, Nat.shiftLeft_eq, h2]
  have : (busDescriptor cls size a).toNat = (cls ++ size ++ 0#2 ++ a).toNat := rfl
  omega

theorem eventDescriptor_toNat (code : BitVec 8) : (eventDescriptor code).toNat = 2 * 2 ^ 28 + code.toNat := by
  have h3 : (0x2#4 ++ 0#20 ++ code).toNat = (0x2#4 ++ 0#20).toNat * 2 ^ 8 + code.toNat := by
    rw [BitVec.toNat_append, ← Nat.shiftLeft_add_eq_or_of_lt code.isLt, Nat.shiftLeft_eq]
  have h4 : (0x2#4 ++ 0#20).toNat = 2 * 2 ^ 20 := rfl
  have : (eventDescriptor code).toNat = (0x2#4 ++ 0#20 ++ code).toNat := rfl
  omega

theorem descClass_toNat (w : BitVec 32) : (descClass w).toNat = w.toNat / 2 ^ 28 := by
  simp only [descClass, BitVec.extractLsb'_toNat, Nat.shiftRight_eq_div_pow]; have := w.isLt; omega

theorem descSize_toNat (w : BitVec 32) : (descSize w).toNat = w.toNat / 2 ^ 26 % 4 := by
  simp only [descSize, BitVec.extractLsb'_toNat, Nat.shiftRight_eq_div_pow]

theorem descBusZero_toNat (w : BitVec 32) : (descBusZero w).toNat = w.toNat / 2 ^ 24 % 4 := by
  simp only [descBusZero, BitVec.extractLsb'_toNat, Nat.shiftRight_eq_div_pow]

theorem descAddr_toNat (w : BitVec 32) : (descAddr w).toNat = w.toNat % 2 ^ 24 := by
  simp only [descAddr, BitVec.extractLsb'_toNat, Nat.shiftRight_eq_div_pow]; simp

theorem descEventZero_toNat (w : BitVec 32) : (descEventZero w).toNat = w.toNat / 2 ^ 8 % 2 ^ 20 := by
  simp only [descEventZero, BitVec.extractLsb'_toNat, Nat.shiftRight_eq_div_pow]

theorem descCode_toNat (w : BitVec 32) : (descCode w).toNat = w.toNat % 2 ^ 8 := by
  simp only [descCode, BitVec.extractLsb'_toNat, Nat.shiftRight_eq_div_pow]; simp

theorem descClass_bus (cls size a) : descClass (busDescriptor cls size a) = cls := by
  apply BitVec.eq_of_toNat_eq; rw [descClass_toNat, busDescriptor_toNat]
  have := cls.isLt; have := size.isLt; have := a.isLt; omega

theorem descSize_bus (cls size a) : descSize (busDescriptor cls size a) = size := by
  apply BitVec.eq_of_toNat_eq; rw [descSize_toNat, busDescriptor_toNat]
  have := cls.isLt; have := size.isLt; have := a.isLt; omega

theorem descBusZero_bus (cls size a) : descBusZero (busDescriptor cls size a) = 0 := by
  apply BitVec.eq_of_toNat_eq; rw [descBusZero_toNat, busDescriptor_toNat]
  have := cls.isLt; have := size.isLt; have := a.isLt; simp; omega

theorem descAddr_bus (cls size a) : descAddr (busDescriptor cls size a) = a := by
  apply BitVec.eq_of_toNat_eq; rw [descAddr_toNat, busDescriptor_toNat]
  have := cls.isLt; have := size.isLt; have := a.isLt; omega

/-! ### The register map, both ways -/

/-- A row is found at its offset, in a map whose rows all have offsets of their own. -/
theorem rowAt_offsetOf {l : Layout} (h : l.offsets.toList.Nodup) (row : Offset) : rowAt l (offsetOf l row) = row := by
  have hlen : row.toNat < l.offsets.toList.length := by simpa using row.isLt
  have hget : offsetOf l row = l.offsets.toList[row.toNat] := by simp [offsetOf]
  unfold rowAt
  rw [hget, h.idxOf_getElem _ hlen, BitVec.ofNat_toNat, BitVec.setWidth_eq]

/-- Every offset has its row. -/
theorem offsetOf_rowAt {l : Layout} (h : l.offsets.toList.Nodup) (o : Offset) : offsetOf l (rowAt l o) = o := by
  have hinj : Function.Injective (offsetOf l) := fun a b hab => by
    rw [← rowAt_offsetOf h a, hab, rowAt_offsetOf h b]
  have : Finite Offset := Finite.of_injective BitVec.toFin fun a b => BitVec.eq_of_toFin_eq
  obtain ⟨row, rfl⟩ := Finite.surjective_of_injective hinj o
  rw [rowAt_offsetOf h]

/-- An offset has a row exactly when it is that row's offset. -/
theorem rowAt_eq_iff {l : Layout} (h : l.offsets.toList.Nodup) (o row : Offset) :
    rowAt l o = row ↔ o.toNat = (offsetOf l row).toNat :=
  ⟨fun e => by rw [← e, offsetOf_rowAt h], fun e => by rw [BitVec.eq_of_toNat_eq e, rowAt_offsetOf h]⟩

/-- A bus descriptor of an address in the window is decoded by its class and size alone. -/
theorem decode_bus (base : Addr) (l : Layout) (cls size) (o : Offset) (operand) (hc : cls = 0 ∨ cls = 1) (hs : size ≠ 3)
    (h : fitsWindow base o 1 = true) :
    decode base l (busDescriptor cls size (busAddr base o)) operand =
      if cls = 0 then decodeRead base l size o operand else decodeWrite base l size o operand := by
  simp only [fitsWindow, Bool.and_eq_true, decide_eq_true_eq] at h
  have hb : (busAddr base o).toNat = base.toNat + o.toNat := by
    simp only [busAddr, BitVec.toNat_add, BitVec.toNat_setWidth]; omega
  have ho : BitVec.ofNat 6 (base.toNat + o.toNat - base.toNat) = o := by
    apply BitVec.eq_of_toNat_eq; simp
  simp only [decode, decodeBus, descClass_bus, descSize_bus, descBusZero_bus, descAddr_bus, hb, ho]
  rw [if_pos hc, if_neg (by rintro (h | h); exact hs h; exact h rfl), if_neg (by have := o.isLt; omega)]

/-- A bus descriptor with zero bits 25:24 is built from its fields. -/
theorem busDescriptor_desc (w : BitVec 32) (h : descBusZero w = 0) :
    busDescriptor (descClass w) (descSize w) (descAddr w) = w := by
  apply BitVec.eq_of_toNat_eq
  rw [busDescriptor_toNat, descClass_toNat, descSize_toNat, descAddr_toNat]
  have h' := congrArg BitVec.toNat h
  rw [descBusZero_toNat] at h'
  have : (0 : BitVec 2).toNat = 0 := rfl
  have := w.isLt
  omega

/-- An event descriptor with zero bits 27:8 is built from its code. -/
theorem eventDescriptor_desc (w : BitVec 32) (h : descEventZero w = 0) (hc : descClass w = 2) :
    eventDescriptor (descCode w) = w := by
  apply BitVec.eq_of_toNat_eq
  rw [eventDescriptor_toNat, descCode_toNat]
  have h' := congrArg BitVec.toNat h
  have h'' := congrArg BitVec.toNat hc
  rw [descEventZero_toNat] at h'
  rw [descClass_toNat] at h''
  have : (0 : BitVec 20).toNat = 0 := rfl
  have : (2 : BitVec 4).toNat = 2 := rfl
  have := w.isLt
  omega

theorem wellFormed_byteWriteForm (base l row d) :
    wellFormed base l (byteWriteForm row d) = fitsWindow base (offsetOf l row) 1 := by
  obtain ⟨n⟩ := row
  fin_cases n <;> rfl

theorem wellFormed_byteReadForm (base l row) :
    wellFormed base l (byteReadForm row) = fitsWindow base (offsetOf l row) 1 := by
  obtain ⟨n⟩ := row
  fin_cases n <;> rfl

end Sys2Proof
end

