-- ==== Sys2Proof/Laws/Memory.lean ====
section
/-! SUPPORT. Laws of the memory list: read after write, frame, and that every memory operation keeps the canonical form. -/

namespace Sys2Proof.Machine

/-- A byte written is the byte listed. -/
theorem memLookup_memInsert_same (m : List Host.Cell) (a : Nat) (v : Byte) : memLookup (memInsert m a v) a = some v := by
  induction m with
  | nil => simp [memInsert, memLookup]
  | cons c rest ih =>
    obtain ⟨k, w⟩ := c
    unfold memInsert
    split
    · simp [memLookup]
    · split
      · simp [memLookup]
      · rename_i h1 h2
        simp [memLookup, h1, h2, ih]

/-- A write leaves every other address as it was listed. -/
theorem memLookup_memInsert_other {a b : Nat} (hab : b ≠ a) (v : Byte) (m : List Host.Cell) :
    memLookup (memInsert m a v) b = memLookup m b := by
  induction m with
  | nil => simp [memInsert, memLookup, hab]
  | cons c rest ih =>
    obtain ⟨k, w⟩ := c
    unfold memInsert
    split
    · rename_i h
      by_cases h1 : b < a
      · have : b < k := by omega
        simp [memLookup, h1, this]
      · simp [memLookup, h1, hab]
    · split
      · rename_i h1 h2
        subst h2
        simp [memLookup, hab]
      · rename_i h1 h2
        by_cases h3 : b < k
        · simp [memLookup, h3]
        · by_cases h4 : b = k
          · simp [memLookup, h4]
          · simp [memLookup, h3, h4, ih]

/-- The rest of a canonical list is canonical above its head. -/
theorem memWfAbove_cons (low : Option Nat) (k : Nat) (v : Byte) (m : List Host.Cell) :
    memWfAbove low ((k, v) :: m) = true ↔
      (∀ l, low = some l → l < k) ∧ k < 2 ^ 24 ∧ memWfAbove (some k) m = true := by
  cases low <;> simp [memWfAbove, and_assoc]

/-- Listing a byte keeps the canonical form above a bound that its address exceeds. -/
theorem memWfAbove_memInsert (low : Option Nat) (m : List Host.Cell) (a : Nat) (v : Byte)
    (hl : ∀ l, low = some l → l < a) (ha : a < 2 ^ 24) (h : memWfAbove low m = true) :
    memWfAbove low (memInsert m a v) = true := by
  induction m generalizing low with
  | nil =>
    rw [memInsert, memWfAbove_cons]
    exact ⟨hl, ha, rfl⟩
  | cons c rest ih =>
    obtain ⟨k, w⟩ := c
    rw [memWfAbove_cons] at h
    obtain ⟨h1, h2, h3⟩ := h
    unfold memInsert
    split
    · rename_i hlt
      rw [memWfAbove_cons, memWfAbove_cons]
      exact ⟨hl, ha, by simpa using hlt, h2, h3⟩
    · split
      · rename_i _ heq
        subst heq
        rw [memWfAbove_cons]
        exact ⟨hl, ha, h3⟩
      · rw [memWfAbove_cons]
        refine ⟨h1, h2, ih (some k) (fun l hk => ?_) h3⟩
        cases hk
        omega

/-- Writing a byte at a 24-bit address keeps the canonical form. -/
theorem memInsert_keeps_memWf (m : List Host.Cell) (a : Addr) (v : Byte) (h : memWf m = true) :
    memWf (memInsert m a.toNat v) = true :=
  memWfAbove_memInsert none m a.toNat v (by simp) a.isLt h

/-- The stores of other agents keep the canonical form. -/
theorem memStores_keeps_memWf (l : List (Addr × Byte)) (m : List Host.Cell) (h : memWf m = true) :
    memWf (memStores m l) = true := by
  induction l generalizing m with
  | nil => exact h
  | cons c rest ih => exact ih _ (memInsert_keeps_memWf m c.1 c.2 h)

/-- The memory of the reset state has the canonical form. -/
theorem resetWith_memWf (p : Params) : memWf (State.resetWith p).memory = true := rfl

/-- A memory read changes nothing but the events and the count of draws. -/
theorem memRead_frame (a : Addr) (s : State) :
    ∃ n, memRead a s = { s with events := s.events ++ [.memRead a], draws := n } := by
  unfold memRead
  split
  · exact ⟨s.draws, rfl⟩
  · exact ⟨s.draws + 1, rfl⟩

/-- A memory write changes nothing but memory and the events. -/
theorem memWrite_eq (a : Addr) (v : Byte) (s : State) :
    memWrite a v s =
      { s with events := s.events ++ [.memWrite a v], memory := memInsert s.memory a.toNat v } := rfl

/-- A byte that memory lists reads as listed. -/
theorem memByte_of_listed {s : State} {a : Addr} {b : Byte} (h : memLookup s.memory a.toNat = some b) : memByte a s = b := by
  simp [memByte, h]

/-- A read leaves memory as it was. -/
@[simp] theorem memRead_memory (a : Addr) (s : State) : (memRead a s).memory = s.memory := by
  unfold memRead
  split <;> rfl

end Sys2Proof.Machine
end

