-- ==== Sys2Proof/Laws/Operands.lean ====
section
/-! SUPPORT. The model's operand forms and checks against the rules' own tables: the layout table, the parameters, frame
addresses, the rate, period and mute tables. -/

namespace Sys2Proof.Machine

/-! ### The checks of the layout table -/

theorem testBit_offsetBits (l : List Offset) (i : Nat) : (offsetBits l).testBit i = true ↔ ∃ o ∈ l, o.toNat = i := by
  induction l with
  | nil => simp [offsetBits]
  | cons o rest ih => simp [offsetBits, Nat.testBit_or, Nat.one_shiftLeft, Nat.testBit_two_pow, ih]

/-- 64 offsets are all different exactly when each of the 64 is there. -/
theorem offsetBits_eq_iff_nodup {l : List Offset} (h : l.length = 64) : offsetBits l = 2 ^ 64 - 1 ↔ l.Nodup := by
  have hmap : (l.map BitVec.toNat).Nodup ↔ l.Nodup := List.nodup_map_iff fun a b => BitVec.eq_of_toNat_eq
  rw [← hmap]
  constructor
  · intro hb
    have hsub : List.range 64 ⊆ l.map BitVec.toNat := fun i hi => by
      have := (testBit_offsetBits l i).1 (by rw [hb, Nat.testBit_two_pow_sub_one]; simpa using hi)
      simpa using this
    have := (List.subperm_of_subset List.nodup_range hsub).perm_of_length_le (by simp [h])
    exact this.nodup_iff.1 List.nodup_range
  · intro hn
    have hsub : l.map BitVec.toNat ⊆ List.range 64 := fun i hi => by
      obtain ⟨o, -, rfl⟩ := List.mem_map.1 hi
      simpa using o.isLt
    have hperm := (List.subperm_of_subset hn hsub).perm_of_length_le (by simp [h])
    apply Nat.eq_of_testBit_eq
    intro i
    rw [Nat.testBit_two_pow_sub_one, Bool.eq_iff_iff, testBit_offsetBits, decide_eq_true_eq, ← List.mem_range,
      ← hperm.mem_iff, List.mem_map]

theorem fieldsDisjoint_iff (l : List (Nat × Nat)) : fieldsDisjoint l = true ↔ BitsApart l := by
  induction l with
  | nil => simp [fieldsDisjoint, BitsApart]
  | cons f rest ih =>
    unfold BitsApart at ih ⊢
    rw [fieldsDisjoint, Bool.and_eq_true, ih, List.pairwise_cons, List.all_eq_true]
    simp only [fieldsApart, Bool.or_eq_true, decide_eq_true_eq]

/-- Fields of one bit share none exactly when their places differ. -/
theorem fieldsDisjoint_bits {n : Nat} (l : List (Fin n)) :
    fieldsDisjoint (l.map fun i : Fin n => (i.val, 1)) = true ↔ l.Nodup := by
  rw [fieldsDisjoint_iff, BitsApart, List.pairwise_map, List.Nodup]
  refine ⟨fun h => h.imp fun {i j} hij => ?_, fun h => h.imp fun {i j} hij => ?_⟩
  · rintro rfl
    omega
  · have : i.val ≠ j.val := fun e => hij (Fin.ext e)
    show i.val + 1 ≤ j.val ∨ j.val + 1 ≤ i.val
    omega

/-- The check of the layout table is the list of what it must meet. -/
theorem layoutValid_iff (l : Layout) : layoutValid l = true ↔ LayoutOk l := by
  have h0 := fieldsDisjoint_bits [l.playMfp, l.recMfp, l.playTimerA, l.recTimerA]
  have h1 := fieldsDisjoint_bits [l.playRun, l.playLoop, l.recRun, l.recLoop, l.dmaSelect]
  have hc : [l.codePlay, l.codeDspTx, l.codeAdc].Nodup ↔
      l.codePlay ≠ l.codeDspTx ∧ l.codePlay ≠ l.codeAdc ∧ l.codeDspTx ≠ l.codeAdc := by
    simp only [List.nodup_cons, List.mem_cons, List.not_mem_nil, or_false, not_or, List.nodup_nil, and_true, not_false_eq_true,
      ne_eq, and_assoc]
  simp only [List.map_cons, List.map_nil] at h0 h1
  simp only [layoutValid, Bool.and_eq_true, beq_iff_eq, bne_iff_ne, h0, h1, fieldsDisjoint_iff,
    offsetBits_eq_iff_nodup (Vector.length_toList (xs := l.offsets))]
  constructor
  · rintro ⟨⟨⟨⟨⟨⟨⟨⟨⟨⟨a1, a2⟩, a3⟩, a4⟩, a5⟩, a6⟩, a7⟩, a8⟩, a9⟩, b1⟩, b2⟩
    exact ⟨a1, a2, a3, a4, a5, a6, a7, hc.2 ⟨a8, a9, b1⟩, b2⟩
  · rintro ⟨a1, a2, a3, a4, a5, a6, a7, a8, a9⟩
    obtain ⟨c1, c2, c3⟩ := hc.1 a8
    exact ⟨⟨⟨⟨⟨⟨⟨⟨⟨⟨a1, a2⟩, a3⟩, a4⟩, a5⟩, a6⟩, a7⟩, c1⟩, c2⟩, c3⟩, a9⟩

/-! ### Parameters, addresses, rates -/

/-- The check of the parameters is the list of constraints 00_scope.md R12 gives, and the layout table's. -/
theorem paramsValid_iff_paramsOk (p : Params) : paramsValid p = true ↔ ParamsOk p := by
  simp only [paramsValid, ParamsOk, MeetsR12, allRates, f64IsFinitePositive, rateFits, Bool.and_eq_true, List.all_eq_true,
    decide_eq_true_eq, Bool.or_eq_true, Bool.not_eq_true', and_assoc, layoutValid_iff]

/-- The address the model assembles is `A24` as 30_encoding.md R317 writes it. -/
theorem assembleAddr_eq_a24 (h m l : Byte) : assembleAddr h m l = a24 h m l := by
  apply BitVec.eq_of_getLsbD_eq
  intro i hi
  have e : assembleAddr h m l = (h ++ m ++ l : BitVec (8 + 8 + 8)) &&& 0xFFFFFE#24 := rfl
  have c : (0xFFFFFE#24).getLsbD i = decide (i ≠ 0) := by
    revert i
    decide
  have c2 : (0xFE#8).getLsbD i = decide (1 ≤ i ∧ i < 8) := by
    revert i
    decide
  rw [e, BitVec.getLsbD_and, c]
  simp only [a24, BitVec.getLsbD_or, BitVec.getLsbD_and, BitVec.getLsbD_append, BitVec.getLsbD_shiftLeft,
    BitVec.getLsbD_setWidth, c2]
  by_cases h1 : i < 8
  · simp only [h1, show i < 16 by omega, hi]
    cases hb : l.getLsbD i <;> rcases i with _ | i <;> simp
  · by_cases h2 : i - 8 < 8
    · simp [h1, h2, hi, show i < 16 by omega, show i ≠ 0 by omega, show i - 8 < 24 by omega]
    · have h3 : i - 8 - 8 = i - 16 := by omega
      have h4 : m.getLsbD (i - 8) = false := BitVec.getLsbD_of_ge _ _ (by omega)
      simp [h1, h2, h3, h4, hi, show ¬i < 16 by omega, show i ≠ 0 by omega, show i - 16 < 24 by omega]

theorem muted_eq_mutedByTable (d : BitVec 4) (i : BitVec 2) : muted d i = mutedByTable d i := by
  revert d i; decide

theorem rate_eq_tableRate (p : Params) (b : Block) (x : OscId) :
    rate p b x = tableRate p b.internalFrequencyDivider b.steFrequencyIndex x := by
  unfold rate tableRate
  by_cases h : b.internalFrequencyDivider = 0
  · rw [if_pos (by simp [h]), if_pos (by simp [h])]
    rw [legacyRate, List.getD_eq_getElem?_getD, List.getElem?_eq_getElem (by have := b.steFrequencyIndex.isLt; simpa using this)]; simp
  · have h' : ¬ b.internalFrequencyDivider.toNat = 0 := fun hc => h (BitVec.eq_of_toNat_eq hc)
    rw [if_neg (by simpa using h), if_neg h']
    have hlt := b.internalFrequencyDivider.isLt
    cases x <;> simp only [extendedRate, List.getD_eq_getElem?_getD]
    · rw [List.getElem?_eq_getElem (by simp; omega)]; simp
    · rw [List.getElem?_eq_getElem (by simp; omega)]; simp

theorem cyclesPerTick_eq_tableRate (p : Params) (b : Block) (x : OscId) :
    cyclesPerTick p b x = fdiv (fdiv (fdiv p.cycleFreq
      (tableRate p b.internalFrequencyDivider b.steFrequencyIndex x)) (f64 b.playTracks)) f64Two := by
  rw [cyclesPerTick, rate_eq_tableRate]

theorem lowBit_clear_iff_even (a : Addr) : (!a.getLsbD 0) = true ↔ a.toNat % 2 = 0 := by
  simp [BitVec.getLsbD, Nat.testBit_zero]

end Sys2Proof.Machine
end

