-- ==== Sys2Proof/Laws/Snapshot.lean ====
section
/-! SUPPORT. The check RESTORE makes is the list of invariants 44_host_bridge.md R832 gives, so a proof about images works
on the named invariants and unfolds no decode. -/

namespace Sys2Proof.Machine

/-- Between even bounds the frame has an even length (20_memory.md R207). -/
theorem frameLen_even {a z : Addr} (ha : a.toNat % 2 = 0) (hz : z.toNat % 2 = 0) : (z - a).toNat % 2 = 0 := by
  have := a.isLt
  rw [BitVec.toNat_sub]
  omega

/-- What `frameOk` checks of a channel. -/
theorem frameOk_iff (c : DmaChannel) :
    frameOk c = true ↔ (c.frameStart.toNat % 2 = 0 ∧ c.frameEnd.toNat % 2 = 0 ∧ c.frameLen.toNat % 2 = 0) ∧
      c.frameLen = c.frameEnd - c.frameStart ∧ (c.isRunning = true → c.frameCounter < c.frameLen.toNat + 2) := by
  simp only [frameOk, Bool.and_eq_true, beq_iff_eq, Bool.or_eq_true, lowBit_clear_iff_even, decide_eq_true_eq]
  constructor
  · rintro ⟨⟨⟨h1, h2⟩, h3⟩, h4⟩
    exact ⟨⟨h1, h2, h3 ▸ frameLen_even h1 h2⟩, h3, fun hr => h4.resolve_left (by simp [hr])⟩
  · rintro ⟨⟨h1, h2, -⟩, h3, h4⟩
    refine ⟨⟨⟨h1, h2⟩, h3⟩, ?_⟩
    cases hr : c.isRunning
    · exact .inl rfl
    · exact .inr (h4 hr)

theorem imageOk_iff (p : Params) (b : Block) : imageOk p b = true ↔ GoodImage p b := by
  constructor
  · intro h
    simp only [imageOk, Bool.and_eq_true, frameOk_iff] at h
    obtain ⟨⟨⟨⟨⟨⟨⟨⟨h1, h2⟩, h3⟩, h4⟩, h5⟩, h6⟩, h7⟩, h8⟩, h9⟩ := h
    simp only [rangesOk, Bool.and_eq_true, decide_eq_true_eq, beq_iff_eq] at h1
    simp only [positionsOk, Bool.and_eq_true, decide_eq_true_eq] at h2
    simp only [latchesEven, Bool.and_eq_true, lowBit_clear_iff_even] at h3
    simp only [runBitsOk, Bool.and_eq_true, beq_iff_eq] at h4
    simp only [decodedOk, beq_iff_eq] at h5
    simp only [clockOk, Bool.and_eq_true, beq_iff_eq, muted_eq_mutedByTable, cyclesPerTick_eq_tableRate] at h6
    simp only [unusedFlagsOk, Bool.and_eq_true, Bool.not_eq_true'] at h9
    have g : ∀ {α} (f : Block → α), f b = f (redecode p.layout b) := fun f => (congrArg f h5).symm
    constructor
    case playInterrupts => exact ⟨g (·.playDma.mfpInterrupt15), g (·.playDma.timerAInterrupt)⟩
    case recInterrupts => exact ⟨g (·.recDma.mfpInterrupt15), g (·.recDma.timerAInterrupt)⟩
    case loops => exact ⟨g (·.playDma.loopMode), g (·.recDma.loopMode)⟩
    case selected => exact g (·.dmaSelected)
    case tracks => exact ⟨g (·.playTracks), g (·.recordTracks)⟩
    case monitored => exact g (·.trackMonitored)
    case format => exact ⟨g (·.is16Bit), g (·.isStereo)⟩
    case rateIndices => exact ⟨g (·.steFrequencyIndex), g (·.internalFrequencyDivider)⟩
    case clockCodes => exact ⟨g (·.dspXmitFreqSel), g (·.dmaPlayFreqSel)⟩
    case dspTxBus => exact ⟨g (·.dspTx.isTristated), g (·.dspTx.isHandshakeMode)⟩
    case dspRxBus => exact ⟨g (·.dspRx.isTristated), g (·.dspRx.isHandshakeMode)⟩
    case toCodec => exact ⟨g (·.playDma.connectedToCodec), g (·.dspTx.connectedToCodec), g (·.adc.connectedToCodec)⟩
    case toDsp => exact ⟨g (·.playDma.connectedToDsp), g (·.dspTx.connectedToDsp), g (·.adc.connectedToDsp)⟩
    case toDma => exact ⟨g (·.playDma.connectedToDma), g (·.dspTx.connectedToDma), g (·.adc.connectedToDma)⟩
    case playGate => exact g (·.playDma.connectedToDspHandshake)
    case recGate => exact g (·.recDma.connectedToDspHandshake)
    case recGateOfTx => exact (g (·.dspTx.connectedToDmaHandshake)).trans (g (·.recDma.connectedToDspHandshake)).symm
    case playRun => exact h4.1
    case recRun => exact h4.2
    case playEven => exact h7.1
    case recEven => exact h8.1
    case playCounter => exact h7.2.2
    case recCounter => exact h8.2.2
    all_goals simp only [h9, h6, h7.2.1, h8.2.1, h1, h2, h3, and_self]
  · intro h
    have hdec : redecode p.layout b = b := by
      obtain ⟨a1, a2, a3, a4, a5, a6, a7, a8, a9, b1, b2, b3, b4, b5, b6, b7, b8, b9, c1, c2, c3, c4, c5, c6, c7, c8, c9, d1, d2,
        d3, d4, d5, d6, d7, d8, d9, e1, e2⟩ := h
      clear a1 a2 a3 a4 a5 a6 a7 a8 a9 b1 b2 d2 d3 d4 d5 d6 d7 d8 d9 e1 e2
      obtain ⟨raw, dmaSelected, playTracks, recordTracks, trackMonitored, is16Bit, isStereo, steFrequencyIndex,
        internalFrequencyDivider, dspXmitFreqSel, dmaPlayFreqSel, isDacMuted, latchedStartPlay, latchedStartRec,
        latchedEndPlay, latchedEndRec, oscA, oscB, epoch, playDma, recDma, dspTx, dspRx, adc, dac, dacPending, adcBuf⟩ := b
      obtain ⟨p1,p2,p3,p4,p5,p6,p7,p8,p9,p10,p11,p12,p13,p14⟩ := playDma
      obtain ⟨r1,r2,r3,r4,r5,r6,r7,r8,r9,r10,r11,r12,r13,r14⟩ := recDma
      obtain ⟨t1,t2,t3,t4,t5,t6,t7⟩ := dspTx
      obtain ⟨x1,x2,x3,x4,x5,x6,x7⟩ := dspRx
      obtain ⟨q1,q2,q3,q4⟩ := adc
      dsimp only at *
      simp only [redecode, decodeRecTracks, decodeIntDivider, decodeSoundMode, decodeTrackControl, decodeDmaControl,
        decodeIntEnable, decodeDst, decodeSrc, decodeHandshake, playGate, recordHandshake, srcDspTxClock, srcPlayClock,
        srcDspTxConnect, srcDspTxHandshakeOff, srcPlayOtherDest, srcPlayHandshakeOff, dstDspRxSource, dstRecOtherSource,
        dstRecHandshakeOff, dstRecSource, dstDacSource, dstDspRxConnect, dstDspRxHandshakeOff, srcWord, dstWord, joinBytes,
        recTracksField, intDividerField, steIndexField, is16BitField, isStereoField, playTracksField, trackMonitoredField,
        dmaSelectField, playLoopField, recLoopField, playMfpField, recMfpField, playTimerAField, recTimerAField]
      simp_all [selS, selD, gateOfPlay, gateOfRecord]
    obtain ⟨t1, t2⟩ := h.tracks
    simp only [imageOk, Bool.and_eq_true, frameOk_iff]
    refine ⟨⟨⟨⟨⟨⟨⟨⟨?_, ?_⟩, ?_⟩, ?_⟩, ?_⟩, ?_⟩, ?_⟩, ?_⟩, ?_⟩
    · simp only [rangesOk, Bool.and_eq_true, decide_eq_true_eq, beq_iff_eq]
      have := (b.raw.trackControl.extractLsb' p.layout.playTracks 2).isLt
      have := (b.raw.recTracks.extractLsb' p.layout.recTracks 2).isLt
      obtain ⟨s1, s2, s3, s4⟩ := h.slots
      obtain ⟨d1, d2⟩ := h.dacSize
      obtain ⟨r1, r2⟩ := h.adcSize
      rw [t1, t2]
      refine ⟨⟨⟨⟨⟨⟨⟨⟨⟨⟨?_, ?_⟩, ?_, ?_⟩, ?_⟩, ?_⟩, ?_⟩, ?_⟩, ?_⟩, ?_⟩, ?_⟩, ?_⟩ <;> omega
    · simp only [positionsOk, Bool.and_eq_true, decide_eq_true_eq]
      exact ⟨⟨⟨h.dacPositions.1, h.dacPositions.2⟩, h.adcPositions.1⟩, h.adcPositions.2⟩
    · simp only [latchesEven, Bool.and_eq_true, lowBit_clear_iff_even]
      exact ⟨⟨⟨h.startsEven.1, h.startsEven.2⟩, h.stopsEven.1⟩, h.stopsEven.2⟩
    · simp only [runBitsOk, Bool.and_eq_true, beq_iff_eq]
      exact ⟨h.playRun, h.recRun⟩
    · simpa only [decodedOk, beq_iff_eq] using hdec
    · simp only [clockOk, Bool.and_eq_true, beq_iff_eq, muted_eq_mutedByTable, cyclesPerTick_eq_tableRate]
      exact ⟨⟨⟨⟨h.cptA, h.cptB⟩, h.dacMuted⟩, h.counted.1⟩, h.counted.2⟩
    · exact ⟨h.playEven, h.playLength, h.playCounter⟩
    · exact ⟨h.recEven, h.recLength, h.recCounter⟩
    · simp only [unusedFlagsOk, Bool.and_eq_true, Bool.not_eq_true']
      exact ⟨⟨⟨⟨⟨⟨h.recUnused.1, h.recUnused.2.1⟩, h.recUnused.2.2⟩, h.rxUnused.1⟩, h.rxUnused.2.1⟩, h.rxUnused.2.2.1⟩,
        h.rxUnused.2.2.2⟩

end Sys2Proof.Machine
end

