-- ==== Sys2Proof/Laws/Transfer.lean ====
section
/-! SUPPORT. Everything a sub-flow of a fire can change outside its own fields: `TickFrame`, reflexive and transitive,
holds of every procedure of the transfer engine, so no proof about configuration unfolds a tick. -/

namespace Sys2Proof.Machine

/-- From `s` to `t` only what a sub-flow may write has changed, and events were only added. -/
structure TickFrame (s t : State) : Prop where
  params : t.params = s.params
  hasReset : t.hasReset = s.hasReset
  stream : t.stream = s.stream
  results : t.results = s.results
  fixed : fixedPart s.params.layout t.block = fixedPart s.params.layout s.block
  events : ∃ l, t.events = s.events ++ l

theorem TickFrame.refl (s : State) : TickFrame s s := ⟨rfl, rfl, rfl, rfl, rfl, [], by simp⟩

theorem TickFrame.trans {s t u : State} (h : TickFrame s t) (k : TickFrame t u) : TickFrame s u := by
  obtain ⟨l, hl⟩ := h.events
  obtain ⟨m, hm⟩ := k.events
  exact ⟨k.params.trans h.params, k.hasReset.trans h.hasReset, k.stream.trans h.stream, k.results.trans h.results,
    (h.params ▸ k.fixed).trans h.fixed, l ++ m, by rw [hm, hl, List.append_assoc]⟩

theorem TickFrame.ite (c : Prop) [Decidable c] {s t u : State} (h : TickFrame s t) (k : TickFrame s u) :
    TickFrame s (if c then t else u) := by split <;> assumption

/-- A change of the block that keeps its fixed part. -/
theorem tickFrame_updBlock {f : Block → Block} {s : State} (h : fixedPart s.params.layout (f s.block) = fixedPart s.params.layout s.block) :
    TickFrame s (updBlock f s) := ⟨rfl, rfl, rfl, rfl, h, [], by simp⟩

theorem tickFrame_emit (e : Event) (s : State) : TickFrame s (emit e s) := ⟨rfl, rfl, rfl, rfl, rfl, [e], rfl⟩

theorem tickFrame_countDraw (s : State) : TickFrame s (countDraw s) := ⟨rfl, rfl, rfl, rfl, rfl, [], by simp⟩

theorem tickFrame_memRead (a : Addr) (s : State) : TickFrame s (memRead a s) := by
  unfold memRead
  split
  · exact tickFrame_emit _ _
  · exact (tickFrame_countDraw s).trans (tickFrame_emit _ _)

theorem tickFrame_memWrite (a : Addr) (v : Byte) (s : State) : TickFrame s (memWrite a v s) :=
  ⟨rfl, rfl, rfl, rfl, rfl, [.memWrite a v], rfl⟩

theorem tickFrame_readSampleWord (a : Addr) (s : State) : TickFrame s (readSampleWord a s) :=
  (tickFrame_memRead a s).trans (tickFrame_memRead _ _)

theorem tickFrame_writeSampleWord (a : Addr) (v : Sample) (s : State) : TickFrame s (writeSampleWord a v s) :=
  (tickFrame_memWrite a _ s).trans (tickFrame_memWrite _ _ _)

theorem tickFrame_dspReadTx (s : State) : TickFrame s (dspReadTx s) := by
  unfold dspReadTx
  split
  · exact (tickFrame_countDraw s).trans (tickFrame_emit _ _)
  · exact ⟨rfl, rfl, rfl, rfl, rfl, [.dspReadTx], rfl⟩

theorem tickFrame_pulseIrq (b : Bool) (p : IrqPath) (s : State) : TickFrame s (pulseIrq b p s) :=
  TickFrame.ite _ (tickFrame_emit _ _) (TickFrame.refl s)

theorem tickFrame_loadFrame (ch : Chan) (s : State) : TickFrame s (loadFrame ch s) := by
  have h : TickFrame s (updBlock (loadBounds ch) s) := tickFrame_updBlock (by cases ch <;> rfl)
  exact TickFrame.ite _ (h.trans (tickFrame_emit _ _)) h

theorem tickFrame_stopChannel (ch : Chan) (s : State) : TickFrame s (stopChannel ch s) :=
  tickFrame_updBlock (by cases ch <;> rfl)

/-- Clearing a bit twice clears it once. -/
theorem clearBit_clearBit (i : Nat) (v : Byte) : clearBit i (clearBit i v) = clearBit i v := by
  unfold clearBit
  rw [BitVec.and_assoc, BitVec.and_self]

theorem clearBit_comm (i j : Nat) (v : Byte) : clearBit i (clearBit j v) = clearBit j (clearBit i v) := by
  unfold clearBit
  rw [BitVec.and_assoc, BitVec.and_assoc, BitVec.and_comm (~~~(1#8 <<< j))]

/-- Clearing a run bit leaves every bit that is not a run bit. -/
theorem clearRunField_fixed (l : Layout) (ch : Chan) (v : Byte) :
    clearBit l.playRun (clearBit l.recRun (clearRunField l ch v)) = clearBit l.playRun (clearBit l.recRun v) := by
  cases ch
  · show clearBit _ (clearBit _ (clearBit _ v)) = _
    rw [clearBit_comm l.recRun, clearBit_clearBit]
  · show clearBit _ (clearBit _ (clearBit _ v)) = _
    rw [clearBit_clearBit]

theorem tickFrame_autoStop (ch : Chan) (s : State) : TickFrame s (autoStop ch s) :=
  (tickFrame_stopChannel ch s).trans
    ⟨rfl, rfl, rfl, rfl, by
      simp only [autoStop, updRaw_block, fixedPart]
      rw [show (stopChannel ch s).params = s.params from rfl, clearRunField_fixed], [], by simp [autoStop]⟩

theorem tickFrame_endOfFrame (ch : Chan) (s : State) : TickFrame s (endOfFrame ch s) :=
  ((tickFrame_pulseIrq _ _ s).trans (tickFrame_pulseIrq _ _ _)).trans
    (TickFrame.ite _ (tickFrame_loadFrame ch _) (tickFrame_autoStop ch _))

theorem tickFrame_advanceChannel (ch : Chan) (inc : Nat) (s : State) : TickFrame s (advanceChannel ch inc s) := by
  have h : ∀ f : DmaChannel → DmaChannel,
      fixedPart s.params.layout (mapDma ch f s.block) = fixedPart s.params.layout s.block → TickFrame s (updDma ch f s) :=
    fun f h => tickFrame_updBlock h
  have h' := h (fun c => { c with
    slot := (c.slot + 1) % (tracksOf ch s.block * 2), frameCounter := c.frameCounter + inc }) (by cases ch <;> rfl)
  exact TickFrame.ite _ (h'.trans (tickFrame_endOfFrame ch _)) h'

theorem tickFrame_dmaRecordSink (v : Sample) (s : State) : TickFrame s (dmaRecordSink v s) :=
  TickFrame.ite _ (TickFrame.refl s)
    ((TickFrame.ite _ (tickFrame_writeSampleWord _ v s) (tickFrame_memWrite _ _ s)).trans
      (tickFrame_advanceChannel _ _ _))

theorem tickFrame_dacSink (v : Sample) (slot : Nat) (s : State) : TickFrame s (dacSink v slot s) :=
  TickFrame.ite _ (tickFrame_updBlock rfl) (TickFrame.ite _ (tickFrame_updBlock rfl) (TickFrame.refl s))

theorem tickFrame_dspRxSink (v : Sample) (frame : Bool) (s : State) : TickFrame s (dspRxSink v frame s) :=
  TickFrame.ite _ (TickFrame.refl s)
    (((tickFrame_emit _ s).trans (tickFrame_emit _ _)).trans (tickFrame_emit _ _))

theorem tickFrame_fanOut (toDma toCodec toDsp : Bool) (v vdac : Sample) (slot : Nat) (frame : Bool) (s : State) :
    TickFrame s (fanOut toDma toCodec toDsp v vdac slot frame s) := by
  have h1 := TickFrame.ite (toDma = true) (tickFrame_dmaRecordSink v s) (TickFrame.refl s)
  have h2 := h1.trans (TickFrame.ite (toCodec = true) (tickFrame_dacSink vdac slot _) (TickFrame.refl _))
  exact h2.trans (TickFrame.ite (toDsp = true) (tickFrame_dspRxSink v frame _) (TickFrame.refl _))

theorem tickFrame_dmaPlayMove (s : State) : TickFrame s (dmaPlayMove s) :=
  ((TickFrame.ite _ (tickFrame_readSampleWord _ s) (tickFrame_memRead _ s)).trans
    (tickFrame_fanOut _ _ _ _ _ _ _ _)).trans (tickFrame_advanceChannel _ _ _)

theorem tickFrame_dmaPlayTick (s : State) : TickFrame s (dmaPlayTick s) :=
  TickFrame.ite _ (TickFrame.refl s) (TickFrame.ite _ (tickFrame_dmaPlayMove s) (TickFrame.ite _ (TickFrame.refl s)
    ((tickFrame_updBlock rfl).trans (tickFrame_dmaPlayMove _))))

theorem tickFrame_dspXmitHandshake (s : State) : TickFrame s (dspXmitHandshake s) :=
  TickFrame.ite _ (TickFrame.refl s)
    (((tickFrame_updBlock rfl).trans (tickFrame_dspReadTx _)).trans (tickFrame_dmaRecordSink _ _))

theorem tickFrame_dspXmitTick (s : State) : TickFrame s (dspXmitTick s) :=
  TickFrame.ite _ (TickFrame.refl s) (TickFrame.ite _ (tickFrame_dspXmitHandshake s)
    (((((tickFrame_emit _ s).trans (tickFrame_emit _ _)).trans (tickFrame_dspReadTx _)).trans
      (tickFrame_fanOut _ _ _ _ _ _ _ _)).trans (tickFrame_updBlock rfl)))

theorem tickFrame_adcTick (s : State) : TickFrame s (adcTick s) := by
  have h : TickFrame s (updBlock (advanceAdcRead s.params.adcCap) s) :=
    tickFrame_updBlock (by unfold advanceAdcRead; split <;> rfl)
  unfold adcTick
  exact (h.trans (tickFrame_fanOut _ _ _ _ _ _ _ _)).trans (tickFrame_updBlock rfl)

theorem tickFrame_fireASubflows (s : State) : TickFrame s (fireASubflows s) := by
  have h1 := tickFrame_dspXmitTick s
  refine TickFrame.ite _ ((h1.trans (tickFrame_dmaPlayTick _)).trans (tickFrame_adcTick _)) ?_
  have h2 := TickFrame.ite (s.block.dspXmitFreqSel = s.params.layout.clockA) h1 (TickFrame.refl s)
  exact (h2.trans (TickFrame.ite _ (tickFrame_dmaPlayTick _) (TickFrame.refl _))).trans (tickFrame_adcTick _)

theorem tickFrame_fireBSubflows (s : State) : TickFrame s (fireBSubflows s) := by
  refine TickFrame.ite _ (TickFrame.refl s) ?_
  have h2 := TickFrame.ite (s.block.dspXmitFreqSel = s.params.layout.clockB) (tickFrame_dspXmitTick s) (TickFrame.refl s)
  exact h2.trans (TickFrame.ite _ (tickFrame_dmaPlayTick _) (TickFrame.refl _))

/-! ### What the sinks change of the block -/

/-- From `s` to `t` the block changes in the record channel and the register file alone. -/
def RecordFrame (s t : State) : Prop :=
  t.params = s.params ∧ ∃ c r, t.block = { s.block with recDma := c, raw := r }

theorem RecordFrame.refl (s : State) : RecordFrame s s := ⟨rfl, _, _, rfl⟩

theorem RecordFrame.trans {s t u : State} (h : RecordFrame s t) (k : RecordFrame t u) : RecordFrame s u := by
  obtain ⟨hp, c, r, hb⟩ := h
  obtain ⟨kp, d, q, kb⟩ := k
  exact ⟨kp.trans hp, d, q, by rw [kb, hb]⟩

theorem RecordFrame.ite (c : Prop) [Decidable c] {s t u : State} (h : RecordFrame s t) (k : RecordFrame s u) :
    RecordFrame s (if c then t else u) := by split <;> assumption

theorem recordFrame_emit (e : Event) (s : State) : RecordFrame s (emit e s) := ⟨rfl, _, _, rfl⟩

theorem recordFrame_endOfFrame (s : State) : RecordFrame s (endOfFrame .record s) := by
  have pulse : ∀ b p u, RecordFrame u (pulseIrq b p u) := fun b p u =>
    RecordFrame.ite _ (recordFrame_emit _ u) (RecordFrame.refl u)
  have load : ∀ u, RecordFrame u (loadFrame .record u) := fun u =>
    have h : RecordFrame u (updBlock (loadBounds .record) u) := ⟨rfl, _, _, rfl⟩
    RecordFrame.ite _ (h.trans (recordFrame_emit _ _)) h
  exact ((pulse _ _ s).trans (pulse _ _ _)).trans (RecordFrame.ite _ (load _) ⟨rfl, _, _, rfl⟩)

theorem recordFrame_advanceChannel (inc : Nat) (s : State) : RecordFrame s (advanceChannel .record inc s) := by
  have h : ∀ f, RecordFrame s (updDma .record f s) := fun f => ⟨rfl, _, _, rfl⟩
  unfold advanceChannel
  dsimp only
  split
  · exact (h _).trans (recordFrame_endOfFrame _)
  · exact h _

theorem recordFrame_dmaRecordSink (v : Sample) (s : State) : RecordFrame s (dmaRecordSink v s) := by
  have write : ∀ a b u, RecordFrame u (memWrite a b u) := fun a b u => ⟨rfl, _, _, rfl⟩
  unfold dmaRecordSink
  dsimp only
  split
  · exact RecordFrame.refl s
  · refine RecordFrame.trans ?_ (recordFrame_advanceChannel _ _)
    split
    · exact (write _ _ s).trans (write _ _ _)
    · exact write _ _ s

@[simp] theorem dspRxSink_block (v : Sample) (frame : Bool) (s : State) : (dspRxSink v frame s).block = s.block := by
  unfold dspRxSink
  split <;> rfl

/-- The DAC sink changes the DAC's ring and the pending count alone, and by what the record sink leaves alone. -/
theorem dacSink_block {s t : State} (v : Sample) (slot : Nat) (h : RecordFrame s t) :
    (dacSink v slot t).block =
      { t.block with dac := (dacSink v slot s).block.dac, dacPending := (dacSink v slot s).block.dacPending } := by
  obtain ⟨hp, c, r, hb⟩ := h
  simp only [dacSink, hp, hb]
  split
  · simp only [updBlock_block, hb]
  · split <;> simp only [updBlock_block, hb]

/-- All that a fan-out changes of the block: the record channel and the register file, as DMA-record leaves them, and the
DAC's ring and pending count, as the DAC sink alone would leave them. -/
theorem fanOut_block (toDma toCodec toDsp : Bool) (v vdac : Sample) (slot : Nat) (frame : Bool) (s : State) :
    ∃ c r, (fanOut toDma toCodec toDsp v vdac slot frame s).block = { s.block with
      recDma := c
      raw := r
      dac := (if toCodec then dacSink vdac slot s else s).block.dac
      dacPending := (if toCodec then dacSink vdac slot s else s).block.dacPending } := by
  have h1 : RecordFrame s (if toDma then dmaRecordSink v s else s) :=
    RecordFrame.ite _ (recordFrame_dmaRecordSink v s) (RecordFrame.refl s)
  unfold fanOut
  generalize (if toDma then dmaRecordSink v s else s) = s1 at h1
  have h2 := dacSink_block vdac slot h1
  obtain ⟨-, c, r, hb⟩ := h1
  refine ⟨c, r, ?_⟩
  cases toDsp <;> cases toCodec <;> simp [h2, hb]

end Sys2Proof.Machine
end

