-- ==== Sys2Proof/Laws/WideWrite.lean ====
section
/-! SUPPORT. Where a wide write completes: a wide write is its byte writes, and a byte write is refused only at the low
frame-counter byte, so no proof about a wide write splits the register map. -/

namespace Sys2Proof.Machine

/-- The first byte of a wide write: where it is not refused the rest is open after it exactly when the whole is, and
where it is refused the whole is not open. -/
theorem wideWriteOpen_cons {o : Offset} {b : Byte} {rest : List Byte} {s : State}
    (h : s.params.layout.offsets.toList.Nodup) (ho : o.toNat + rest.length < 64) :
    (∃ t, write8 o b s = .ok t ∧ t.params = s.params ∧ t.hasReset = s.hasReset ∧
      (WideWriteOpen s o (b :: rest) ↔ WideWriteOpen t (o + 1) rest)) ∨
    (write8 o b s = .error .unmodelledFrameCountWrite ∧ ¬WideWriteOpen s o (b :: rest)) := by
  have hlow : rowAt s.params.layout o = 0x0D#6 ↔ o.toNat = (offsetOf s.params.layout 0x0D).toNat := rowAt_eq_iff h o 0x0D
  have hctl : rowAt s.params.layout o = 0x01#6 ↔ o.toNat = (offsetOf s.params.layout 0x01).toNat := rowAt_eq_iff h o 0x01
  have hrow : write8 o b s = writeRow (rowAt s.params.layout o) b s := rfl
  have hne : (offsetOf s.params.layout 0x01).toNat ≠ (offsetOf s.params.layout 0x0D).toNat := fun e => by
    have := (rowAt_eq_iff h _ 0x0D).2 e
    rw [rowAt_offsetOf h] at this
    exact absurd this (by decide)
  have hlen : rest = [] ∨ (o + 1).toNat = o.toNat + 1 := by
    rcases rest with _ | ⟨c, rest⟩
    · exact .inl rfl
    · rw [List.length_cons] at ho
      exact .inr (by rw [BitVec.toNat_add, show (1 : Offset).toNat = 1 from rfl]; omega)
  simp only [WideWriteOpen, List.length_cons]
  generalize hl : (offsetOf s.params.layout 0x0D).toNat = low at *
  generalize hc : (offsetOf s.params.layout 0x01).toNat = control at *
  by_cases hlo : o.toNat = low
  · rw [hlow.2 hlo, writeRow_countLo] at hrow
    split at hrow
    · rename_i hopen
      refine .inl ⟨_, hrow, rfl, rfl, ?_⟩
      rw [Bool.or_eq_true, beq_iff_eq] at hopen
      simp only [updRaw_params, hl, hc, updRaw_block]
      refine ⟨fun _ => ?_, fun _ => ?_⟩
      · rcases hlen with rfl | hlen
        · exact .inr fun h1 h2 => by simp only [List.length_nil] at h2; omega
        · exact .inr fun h1 h2 => by omega
      · rcases hopen with hs | hi
        · exact .inr fun _ _ => by rwa [if_neg (by omega)]
        · exact .inl hi
    · rename_i hopen
      rw [Bool.or_eq_true, beq_iff_eq, not_or] at hopen
      refine .inr ⟨hrow, ?_⟩
      rintro (hi | hi)
      · exact hopen.2 hi
      · have := hi (by omega) (by omega)
        rw [if_neg (by omega)] at this
        exact hopen.1 this
  · obtain ⟨t, ht⟩ := writeRow_ok (fun e => hlo (hlow.1 e)) b s
    obtain ⟨hp, hr, hd⟩ := writeRow_frame ht
    refine .inl ⟨t, hrow.trans ht, hp, hr, ?_⟩
    rw [hp, hl, hc, hd]
    refine or_congr_right ?_
    rcases hlen with rfl | hlen
    · simp only [List.length_nil]
      exact ⟨fun _ h1 h2 => by omega, fun _ h1 h2 => by omega⟩
    · rw [hlen]
      by_cases hco : o.toNat = control
      · rw [if_pos (hctl.2 hco)]
        by_cases hin : low < o.toNat + (rest.length + 1) ∧ o.toNat < low
        · rw [if_pos (by omega), if_neg (by omega), ← hco, Nat.sub_self, List.getD_cons_zero]
          exact ⟨fun k _ _ => k (by omega) (by omega), fun k _ _ => k (by omega) (by omega)⟩
        · exact ⟨fun _ h1 h2 => by omega, fun _ h1 h2 => by omega⟩
      · rw [if_neg (fun e => hco (hctl.1 e))]
        have hif : (o.toNat ≤ control ∧ control < low) ↔ (o.toNat + 1 ≤ control ∧ control < low) := by omega
        by_cases hin : o.toNat + 1 ≤ control ∧ control < low
        · rw [if_pos (hif.2 hin), if_pos hin, show control - o.toNat = control - (o.toNat + 1) + 1 by omega,
            List.getD_cons_succ]
          exact ⟨fun k _ _ => k (by omega) (by omega), fun k _ _ => k (by omega) (by omega)⟩
        · rw [if_neg (fun e => hin (hif.1 e)), if_neg hin]
          exact ⟨fun k _ _ => k (by omega) (by omega), fun k _ _ => k (by omega) (by omega)⟩

/-- The byte writes of a wide write, in ascending order. -/
def writeBytes (o : Offset) (l : List Byte) (s : State) : Except Refusal State :=
  match l with
  | [] => .ok s
  | b :: rest => (write8 o b s).bind (writeBytes (o + 1) rest)

/-- The byte writes of a wide write complete exactly where it is open, and are refused elsewhere. -/
theorem writeBytes_ends {o : Offset} {l : List Byte} {s : State} (h : s.params.layout.offsets.toList.Nodup)
    (ho : o.toNat + l.length ≤ 64) :
    (WideWriteOpen s o l → ∃ t, writeBytes o l s = .ok t) ∧
      (¬WideWriteOpen s o l → writeBytes o l s = .error .unmodelledFrameCountWrite) := by
  induction l generalizing o s with
  | nil =>
    refine ⟨fun _ => ⟨s, rfl⟩, fun hn => absurd (.inr fun h1 h2 => ?_) hn⟩
    simp only [List.length_nil, Nat.add_zero] at h2
    exact absurd h1 (Nat.not_le.2 h2)
  | cons b rest ih =>
    rw [List.length_cons] at ho
    rcases wideWriteOpen_cons (b := b) h (show o.toNat + rest.length < 64 by omega) with ⟨t, ht, hp, -, hiff⟩ | ⟨he, hn⟩
    · have hrun : writeBytes o (b :: rest) s = writeBytes (o + 1) rest t := by rw [writeBytes, ht]; rfl
      rw [hrun, hiff]
      rcases rest with _ | ⟨c, rest⟩
      · exact ⟨fun _ => ⟨t, rfl⟩, fun hn => absurd (.inr fun h1 h2 => by
          simp only [List.length_nil, Nat.add_zero] at h2; exact absurd h1 (Nat.not_le.2 h2)) hn⟩
      · rw [List.length_cons] at ho
        exact ih (hp ▸ h) (by rw [BitVec.toNat_add, show (1 : Offset).toNat = 1 from rfl, List.length_cons]; omega)
    · exact ⟨fun ho => absurd ho hn, fun _ => by rw [writeBytes, he]; rfl⟩

/-- A wide access at an even address in the window runs. -/
theorem wideAccess_of_even {o : Offset} {width : Nat} {s : State} (h : Ready s)
    (he : (s.params.regBase.toNat + o.toNat) % 2 = 0) (hw : o.toNat + width ≤ 64)
    (ht : s.params.regBase.toNat + o.toNat + width ≤ 2 ^ 24) (k : Out) : wideAccess o width s k = k := by
  have hodd : isOddAddr (busAddr s.params.regBase o) = false := by
    rw [isOddAddr, BitVec.getLsbD, Nat.testBit_zero, busAddr, BitVec.toNat_add, BitVec.toNat_setWidth, decide_eq_false_iff_not]
    omega
  rw [wideAccess, whenReady_of_ready h.1 h.2, hodd, if_neg (by decide), if_neg (by simp only [fitsWindow, hw, ht]; decide)]

/-- A word write is its two byte writes. -/
theorem writeWord_eq (o : Offset) (d : BitVec 16) (s : State) :
    writeWord o d s = writeBytes o [d.extractLsb' 8 8, d.extractLsb' 0 8] s := by
  simp only [writeWord, writeBytes, high8, low8]
  cases write8 o (d.extractLsb' 8 8) s with
  | error e => rfl
  | ok t => show write8 _ _ _ = (write8 _ _ _).bind _; cases write8 (o + 1) (d.extractLsb' 0 8) t <;> rfl

/-- A long write is its four byte writes. -/
theorem writeLong_eq (o : Offset) (d : BitVec 32) (s : State) :
    writeLong o d s =
      writeBytes o [d.extractLsb' 24 8, d.extractLsb' 16 8, d.extractLsb' 8 8, d.extractLsb' 0 8] s := by
  have part : ∀ i j : Nat, j + 8 ≤ 16 → (d.extractLsb' i 16).extractLsb' j 8 = d.extractLsb' (i + j) 8 := by
    intro i j hj
    apply BitVec.eq_of_getLsbD_eq
    intro k hk
    simp only [BitVec.getLsbD_extractLsb', hk, show j + k < 16 by omega, decide_true, Bool.true_and, Nat.add_assoc]
  have split : ∀ (p q r t : Byte), writeBytes o [p, q, r, t] s =
      (writeBytes o [p, q] s).bind (writeBytes (o + 2) [r, t]) := by
    intro p q r t
    have h2 : o + 1 + 1 = o + 2 := by rw [BitVec.add_assoc]; rfl
    simp only [writeBytes, h2]
    cases write8 o p s with
    | error e => rfl
    | ok u =>
      show (write8 (o + 1) q u).bind _ = Except.bind ((write8 (o + 1) q u).bind _) _
      cases write8 (o + 1) q u <;> rfl
  rw [writeLong, split, writeWord_eq, part 16 8 (by decide), part 16 0 (by decide)]
  congr 1
  funext u
  rw [writeWord_eq, part 0 8 (by decide), part 0 0 (by decide)]

end Sys2Proof.Machine
end

