-- ==== Sys2Proof/Tests/Slice0.lean ====
section
/-! SUPPORT. The model's own tests. Expected values come from the encodings of 30_encoding.md and the vectors of
95_test_vectors.md, named in each test; then one witness per claim, meeting its hypotheses. -/

namespace Sys2Proof.Tests

set_option Elab.async false

open Sys2Proof.Machine

/-! ### Helpers -/

/-- The operation ends in a next state of which `f` holds. -/
def check (i : Instr) (s : State) (f : State → Bool) : Bool :=
  match exec i s with
  | .next t => f t
  | _ => false

/-- The next state of an operation, or `s` if there is none. -/
def stateAfter (i : Instr) (s : State) : State :=
  match exec i s with
  | .next t => t
  | _ => s

theorem next_of_check {i : Instr} {s : State} {f : State → Bool} (h : check i s f = true) :
    ∃ t, exec i s = .next t := by
  unfold check at h
  cases he : exec i s with
  | next t => exact ⟨t, rfl⟩
  | fault e => cases e
  | refused r => rw [he] at h; cases h

theorem next_of_ticks {x : OscId} {n : Nat} {s : State}
    (h : (match ticksOf x n s with
      | .next _ => true
      | _ => false) = true) : ∃ t, ticksOf x n s = .next t := by
  cases he : ticksOf x n s with
  | next t => exact ⟨t, rfl⟩
  | fault e => cases e
  | refused r => rw [he] at h; cases h

/-- The operation is refused for the given reason. -/
def refuses (i : Instr) (s : State) (r : Refusal) : Bool :=
  match exec i s with
  | .refused q => q == r
  | _ => false

/-- The reset state with another block. -/
def withBlock (f : Block → Block) : State := { State.reset with block := f State.reset.block }

/-- A play channel at the start of a four-byte frame at 0x010000, 8-bit stereo, wired to the DAC only, unmuted. -/
def playing : State :=
  { withBlock (fun b => { b with
      isDacMuted := false
      latchedStartPlay := 0x010000
      latchedEndPlay := 0x010004
      playDma := { b.playDma with
        frameStart := 0x010000, frameEnd := 0x010004, frameLen := 4, isRunning := true
        connectedToDspHandshake := false, connectedToDma := false, connectedToDsp := false
        mfpInterrupt15 := true, timerAInterrupt := true } }) with
    memory := [(0x010000, 0x81), (0x010001, 0x34), (0x010002, 0xAB), (0x010003, 0xCD)] }

/-- `playing` with another play channel. -/
def playingWith (f : DmaChannel → DmaChannel) : State := updDma .play f playing

/-- V-SRC-7: 16-bit, play wired to the DAC and to a running record channel at 0x020000. -/
def copying : State :=
  updBlock (fun b => { b with
    is16Bit := true
    latchedStartRec := 0x020000
    latchedEndRec := 0x020008
    playDma := { b.playDma with connectedToDma := true }
    recDma := { b.recDma with
      frameStart := 0x020000, frameEnd := 0x020008, frameLen := 8, isRunning := true } }) playing

/-- A DSP-transmit port connected and wired to the DAC, with the word 0x0100 ready. -/
def transmitting : State :=
  { withBlock (fun b => { b with
      isDacMuted := false
      dspTx := { b.dspTx with isTristated := false, connectedToCodec := true, wordCount := 1 } }) with
    dspWords := [0x0100] }

/-- The same port in the handshake with a running record channel. -/
def handshaking : State :=
  updBlock (fun b => { b with
    dspTx := { b.dspTx with connectedToCodec := false, connectedToDma := true, connectedToDmaHandshake := true }
    recDma := { b.recDma with
      frameStart := 0x00A000, frameEnd := 0x00A004, frameLen := 4, isRunning := true
      connectedToDspHandshake := true, handshakeFrame := true } }) transmitting

/-- V-ADC-1. -/
def sampling : State :=
  withBlock (fun b => { b with
    adc := { b.adc with side := .right, connectedToDsp := true }
    dspRx := { b.dspRx with isTristated := false }
    adcBuf := { b.adcBuf with rd := 5, right := b.adcBuf.right.set 5 (-3) } })

/-- V-DRAIN-1, at equal rates. -/
def draining : State :=
  { withBlock (fun b => { b with
      steFrequencyIndex := 3
      dacPending := 0x4008000000000000
      dac := { b.dac with left := [100, 200, 300, 0, 0, 0, 0, 0], right := [-100, -200, -300, 0, 0, 0, 0, 0] } }) with
    params := { exampleParams with hostRate := 0x40E8724000000000 } }

/-- An instance whose host rate is so low that the feed's ratio is 0. -/
def slowHost : State := State.resetWith { exampleParams with hostRate := 1 }

/-- Another layout table: the default's first two registers change places, and with them the select and the play-run bit. -/
def swapped : Layout :=
  { defaultLayout with
    offsets := (defaultLayout.offsets.set 0 0x01).set 1 0x00
    playRun := 7
    dmaSelect := 0 }

/-- `State.reset` with that table. -/
def swappedMap : State := State.resetWith { exampleParams with layout := swapped }

/-- A table with the rows of DMA control and of the unassigned byte 0x0C exchanged, REC selected, and a write to 0x0D
refused where PLAY is. -/
def controlFirst : State :=
  let s := State.resetWith { exampleParams with
    layout := { defaultLayout with offsets := (defaultLayout.offsets.set 0x0C 0x01).set 0x01 0x0C } }
  { s with block := { s.block with dmaSelected := true } }

/-- After power-on. -/
def poweredOn : State := State.powerOn exampleParams (resetBlock exampleParams 0)

/-- A reset state with both channels started over degenerate frames and DMA-play not waiting for the DSP, reached by two
writes. -/
def running : State := stateAfter (.wb01DmaControl 0x11) (stateAfter (.wb31SrcSelLo 0x08) State.reset)

/-- An operation of another agent's word and store, then a capture. -/
def captureOperation : Operation where
  stores := [(0x001000, 0x55)]
  dspWords := [7]
  descriptor := 0x20000009
  operand := .none

/-! ### Well-formedness: each check refuses an ill-formed operation -/

theorem test_wf_byte : wellFormed 0xFF8900 defaultLayout (.wb3FUnassigned 0) = true := by decide
theorem test_wf_byte_past_top : wellFormed 0xFFFFF0 defaultLayout (.wb10Unassigned 0) = false := by decide
theorem test_wf_even : wellFormed 0xFF8900 defaultLayout (.wwEven 0x3E 0) = true := by decide
theorem test_wf_even_at_odd : wellFormed 0xFF8900 defaultLayout (.wwEven 0x01 0) = false := by decide
theorem test_wf_even_at_odd_base : wellFormed 0xFF8901 defaultLayout (.rwEven 0x00) = false := by decide
theorem test_wf_even_past_end : wellFormed 0xFF8900 defaultLayout (.wlEven 0x3E 0) = false := by decide
theorem test_wf_even_past_top : wellFormed 0xFFFFFE defaultLayout (.rlEven 0x00) = false := by decide
theorem test_wf_odd : wellFormed 0xFF8900 defaultLayout (.rlOdd 0x3F) = true := by decide
theorem test_wf_odd_at_even : wellFormed 0xFF8900 defaultLayout (.wwOdd 0x02 0) = false := by decide
theorem test_wf_odd_past_top : wellFormed 0xFFFFF0 defaultLayout (.rwOdd 0x11) = false := by decide

/-! ### Decoding: words written out from 30_encoding.md R330, R333 -/

/-- `wb`: class 1, byte, 0xFF8930 (V-ENC-1's form) -/
theorem test_decode_wb :
    decode 0xFF8900 defaultLayout 0b00010000111111111000100100110000#32 (.byte 0xAA) = .ok (.wb30SrcSelHi 0xAA) := by decide
/-- `rb`: class 0, byte (V-ENC-2) -/
theorem test_decode_rb : decode 0xFF8900 defaultLayout 0b00000000111111111000100100001001#32 .none = .ok .rb09FrameCountHi := by decide
/-- Every `wb` and `rb` row of 40_register_write.md and 41_register_read.md: descriptor `0x10FF89oo` and `0x00FF89oo`. -/
theorem test_decode_wb_00 :
    ([(0x10FF8900, .wb00IntEnable 0x5A), (0x10FF8901, .wb01DmaControl 0x5A), (0x10FF8902, .wb02Unassigned 0x5A),
       (0x10FF8903, .wb03FrameStartHi 0x5A), (0x10FF8904, .wb04Unassigned 0x5A), (0x10FF8905, .wb05FrameStartMid 0x5A),
       (0x10FF8906, .wb06Unassigned 0x5A), (0x10FF8907, .wb07FrameStartLo 0x5A), (0x10FF8908, .wb08Unassigned 0x5A),
       (0x10FF8909, .wb09FrameCountHi 0x5A), (0x10FF890A, .wb0AUnassigned 0x5A), (0x10FF890B, .wb0BFrameCountMid 0x5A),
       (0x10FF890C, .wb0CUnassigned 0x5A), (0x10FF890D, .wb0DFrameCountLo 0x5A), (0x10FF890E, .wb0EUnassigned 0x5A),
       (0x10FF890F, .wb0FFrameEndHi 0x5A)] : List (BitVec 32 × Instr)).all
        (fun x => decide (decode 0xFF8900 defaultLayout x.1 (.byte 0x5A) = .ok x.2)) = true := by decide
theorem test_decode_wb_10 :
    ([(0x10FF8910, .wb10Unassigned 0x5A), (0x10FF8911, .wb11FrameEndMid 0x5A), (0x10FF8912, .wb12Unassigned 0x5A),
       (0x10FF8913, .wb13FrameEndLo 0x5A), (0x10FF8914, .wb14Unassigned 0x5A), (0x10FF8915, .wb15Unassigned 0x5A),
       (0x10FF8916, .wb16Unassigned 0x5A), (0x10FF8917, .wb17Unassigned 0x5A), (0x10FF8918, .wb18Unassigned 0x5A),
       (0x10FF8919, .wb19Unassigned 0x5A), (0x10FF891A, .wb1AUnassigned 0x5A), (0x10FF891B, .wb1BUnassigned 0x5A),
       (0x10FF891C, .wb1CUnassigned 0x5A), (0x10FF891D, .wb1DUnassigned 0x5A), (0x10FF891E, .wb1EUnassigned 0x5A),
       (0x10FF891F, .wb1FUnassigned 0x5A)] : List (BitVec 32 × Instr)).all
        (fun x => decide (decode 0xFF8900 defaultLayout x.1 (.byte 0x5A) = .ok x.2)) = true := by decide
theorem test_decode_wb_20 :
    ([(0x10FF8920, .wb20TrackControl 0x5A), (0x10FF8921, .wb21SoundMode 0x5A), (0x10FF8922, .wb22Unassigned 0x5A),
       (0x10FF8923, .wb23Unassigned 0x5A), (0x10FF8924, .wb24Unassigned 0x5A), (0x10FF8925, .wb25Unassigned 0x5A),
       (0x10FF8926, .wb26Unassigned 0x5A), (0x10FF8927, .wb27Unassigned 0x5A), (0x10FF8928, .wb28Unassigned 0x5A),
       (0x10FF8929, .wb29Unassigned 0x5A), (0x10FF892A, .wb2AUnassigned 0x5A), (0x10FF892B, .wb2BUnassigned 0x5A),
       (0x10FF892C, .wb2CUnassigned 0x5A), (0x10FF892D, .wb2DUnassigned 0x5A), (0x10FF892E, .wb2EUnassigned 0x5A),
       (0x10FF892F, .wb2FUnassigned 0x5A)] : List (BitVec 32 × Instr)).all
        (fun x => decide (decode 0xFF8900 defaultLayout x.1 (.byte 0x5A) = .ok x.2)) = true := by decide
theorem test_decode_wb_30 :
    ([(0x10FF8930, .wb30SrcSelHi 0x5A), (0x10FF8931, .wb31SrcSelLo 0x5A), (0x10FF8932, .wb32DstSelHi 0x5A),
       (0x10FF8933, .wb33DstSelLo 0x5A), (0x10FF8934, .wb34ExtDivider 0x5A), (0x10FF8935, .wb35IntDivider 0x5A),
       (0x10FF8936, .wb36RecTracks 0x5A), (0x10FF8937, .wb37CodecInput 0x5A), (0x10FF8938, .wb38AdcInput 0x5A),
       (0x10FF8939, .wb39Gain 0x5A), (0x10FF893A, .wb3AAtten0 0x5A), (0x10FF893B, .wb3BAtten1 0x5A),
       (0x10FF893C, .wb3CCodecStatusHi 0x5A), (0x10FF893D, .wb3DCodecStatusLo 0x5A),
       (0x10FF893E, .wb3EUnassigned 0x5A), (0x10FF893F, .wb3FUnassigned 0x5A)] : List (BitVec 32 × Instr)).all
        (fun x => decide (decode 0xFF8900 defaultLayout x.1 (.byte 0x5A) = .ok x.2)) = true := by decide
theorem test_decode_rb_00 :
    ([(0x00FF8900, .rb00IntEnable), (0x00FF8901, .rb01DmaControl), (0x00FF8902, .rb02Unassigned),
       (0x00FF8903, .rb03FrameStartHi), (0x00FF8904, .rb04Unassigned), (0x00FF8905, .rb05FrameStartMid),
       (0x00FF8906, .rb06Unassigned), (0x00FF8907, .rb07FrameStartLo), (0x00FF8908, .rb08Unassigned),
       (0x00FF8909, .rb09FrameCountHi), (0x00FF890A, .rb0AUnassigned), (0x00FF890B, .rb0BFrameCountMid),
       (0x00FF890C, .rb0CUnassigned), (0x00FF890D, .rb0DFrameCountLo), (0x00FF890E, .rb0EUnassigned),
       (0x00FF890F, .rb0FFrameEndHi)] : List (BitVec 32 × Instr)).all
        (fun x => decide (decode 0xFF8900 defaultLayout x.1 .none = .ok x.2)) = true := by decide
theorem test_decode_rb_10 :
    ([(0x00FF8910, .rb10Unassigned), (0x00FF8911, .rb11FrameEndMid), (0x00FF8912, .rb12Unassigned),
       (0x00FF8913, .rb13FrameEndLo), (0x00FF8914, .rb14Unassigned), (0x00FF8915, .rb15Unassigned),
       (0x00FF8916, .rb16Unassigned), (0x00FF8917, .rb17Unassigned), (0x00FF8918, .rb18Unassigned),
       (0x00FF8919, .rb19Unassigned), (0x00FF891A, .rb1AUnassigned), (0x00FF891B, .rb1BUnassigned),
       (0x00FF891C, .rb1CUnassigned), (0x00FF891D, .rb1DUnassigned), (0x00FF891E, .rb1EUnassigned),
       (0x00FF891F, .rb1FUnassigned)] : List (BitVec 32 × Instr)).all
        (fun x => decide (decode 0xFF8900 defaultLayout x.1 .none = .ok x.2)) = true := by decide
theorem test_decode_rb_20 :
    ([(0x00FF8920, .rb20TrackControl), (0x00FF8921, .rb21SoundMode), (0x00FF8922, .rb22Unassigned),
       (0x00FF8923, .rb23Unassigned), (0x00FF8924, .rb24Unassigned), (0x00FF8925, .rb25Unassigned),
       (0x00FF8926, .rb26Unassigned), (0x00FF8927, .rb27Unassigned), (0x00FF8928, .rb28Unassigned),
       (0x00FF8929, .rb29Unassigned), (0x00FF892A, .rb2AUnassigned), (0x00FF892B, .rb2BUnassigned),
       (0x00FF892C, .rb2CUnassigned), (0x00FF892D, .rb2DUnassigned), (0x00FF892E, .rb2EUnassigned),
       (0x00FF892F, .rb2FUnassigned)] : List (BitVec 32 × Instr)).all
        (fun x => decide (decode 0xFF8900 defaultLayout x.1 .none = .ok x.2)) = true := by decide
theorem test_decode_rb_30 :
    ([(0x00FF8930, .rb30SrcSelHi), (0x00FF8931, .rb31SrcSelLo), (0x00FF8932, .rb32DstSelHi),
       (0x00FF8933, .rb33DstSelLo), (0x00FF8934, .rb34ExtDivider), (0x00FF8935, .rb35IntDivider),
       (0x00FF8936, .rb36RecTracks), (0x00FF8937, .rb37CodecInput), (0x00FF8938, .rb38AdcInput),
       (0x00FF8939, .rb39Gain), (0x00FF893A, .rb3AAtten0), (0x00FF893B, .rb3BAtten1), (0x00FF893C, .rb3CCodecStatusHi),
       (0x00FF893D, .rb3DCodecStatusLo), (0x00FF893E, .rb3EUnassigned), (0x00FF893F, .rb3FUnassigned)] : List (BitVec 32 × Instr)).all
        (fun x => decide (decode 0xFF8900 defaultLayout x.1 .none = .ok x.2)) = true := by decide
/-- `ww` even: class 1, size 01 (V-ENC-3) -/
theorem test_decode_ww :
    decode 0xFF8900 defaultLayout 0b00010100111111111000100100110000#32 (.word 0x1234) = .ok (.wwEven 0x30 0x1234) := by decide
theorem test_decode_ww_odd :
    decode 0xFF8900 defaultLayout 0b00010100111111111000100100110001#32 (.word 0x1234) = .ok (.wwOdd 0x31 0x1234) := by decide
/-- `wl` even: class 1, size 10 (V-ENC-16) -/
theorem test_decode_wl :
    decode 0xFF8900 defaultLayout 0b00011000111111111000100100111010#32 (.long 0x11223344) = .ok (.wlEven 0x3A 0x11223344) := by decide
theorem test_decode_wl_odd :
    decode 0xFF8900 defaultLayout 0b00011000111111111000100100111011#32 (.long 1) = .ok (.wlOdd 0x3B 1) := by decide
/-- `rw` even and odd (V-ENC-11, V-ENC-5) -/
theorem test_decode_rw : decode 0xFF8900 defaultLayout 0b00000100111111111000100100111110#32 .none = .ok (.rwEven 0x3E) := by decide
theorem test_decode_rw_odd : decode 0xFF8900 defaultLayout 0b00000100111111111000100100110001#32 .none = .ok (.rwOdd 0x31) := by decide
/-- `rl` even and odd (V-ENC-4) -/
theorem test_decode_rl : decode 0xFF8900 defaultLayout 0b00001000111111111000100100110000#32 .none = .ok (.rlEven 0x30) := by decide
theorem test_decode_rl_odd : decode 0xFF8900 defaultLayout 0b00001000111111111000100100111111#32 .none = .ok (.rlOdd 0x3F) := by decide
/-- the ten events of R333 -/
theorem test_decode_fire :
    decode 0xFF8900 defaultLayout 0b00100000000000000000000000000001#32 (.epoch 7) = .ok (.fireA 7) ∧
    decode 0xFF8900 defaultLayout 0b00100000000000000000000000000010#32 (.epoch 8) = .ok (.fireB 8) := by decide
theorem test_decode_fso :
    decode 0xFF8900 defaultLayout 0b00100000000000000000000000000011#32 .none = .ok .fsoPlay ∧
    decode 0xFF8900 defaultLayout 0b00100000000000000000000000000100#32 .none = .ok .fsoRec := by decide
theorem test_decode_host :
    decode 0xFF8900 defaultLayout 0b00100000000000000000000000000101#32 (.pairs [(1, 2)]) = .ok (.drain [(1, 2)]) ∧
    decode 0xFF8900 defaultLayout 0b00100000000000000000000000000110#32 (.pairs [(3, 4)]) = .ok (.mic [(3, 4)]) := by decide
theorem test_decode_reset :
    decode 0xFF8900 defaultLayout 0b00100000000000000000000000000111#32 .none = .ok .resetCold ∧
    decode 0xFF8900 defaultLayout 0b00100000000000000000000000001000#32 .none = .ok .resetWarm := by decide
theorem test_decode_capture : decode 0xFF8900 defaultLayout 0b00100000000000000000000000001001#32 .none = .ok .capture := by decide
theorem test_decode_restore (b : Block) :
    decode 0xFF8900 defaultLayout 0b00100000000000000000000000001010#32 (.image b) = .ok (.restore b) := rfl
/-- V-ENC-6 to V-ENC-10, V-ENC-13 to V-ENC-15 -/
theorem test_decode_refuses :
    decode 0xFF8900 defaultLayout 0x0CFF8900 .none = .error .badDescriptor ∧
    decode 0xFF8900 defaultLayout 0x11FF8901 (.byte 0) = .error .badDescriptor ∧
    decode 0xFF8900 defaultLayout 0x30000000 .none = .error .badDescriptor ∧
    decode 0xFF8900 defaultLayout 0x10FF8940 (.byte 0) = .error .outsideWindow ∧
    decode 0xFF8900 defaultLayout 0x08FF893E .none = .error .outsideWindow ∧
    decode 0xFF8900 defaultLayout 0x2000000B .none = .error .badDescriptor ∧
    decode 0xFF8900 defaultLayout 0x20000101 (.epoch 0) = .error .badDescriptor ∧
    decode 0xFF8900 defaultLayout 0x20000000 .none = .error .badDescriptor := by decide
/-- The table's numbering: the RESTORE row's word, and an odd row's. -/
theorem test_decodeTableWord :
    decodeTableWord 32 0x20000009 = some .capture ∧ decodeTableWord 32 0x14FF8931 = some (.wwOdd 0x31 0) := by decide
/-- R301's map is the layout table's: with two rows exchanged the two addresses name each other's registers. -/
theorem test_decode_layout :
    decode 0xFF8900 swapped 0x10FF8900 (.byte 3) = .ok (.wb01DmaControl 3) ∧
    decode 0xFF8900 swapped 0x00FF8901 .none = .ok .rb00IntEnable ∧
    (encode 0xFF8900 swapped (.wb01DmaControl 3)).1 = 0x10FF8900 := by decide

/-! ### Register writes (95 section 2.2) -/

/-- V-W-2 -/
theorem test_int_enable : check (.wb00IntEnable 0xFA) State.reset (fun t =>
    t.block.recDma.mfpInterrupt15 && t.block.recDma.timerAInterrupt && !t.block.playDma.mfpInterrupt15
      && !t.block.playDma.timerAInterrupt && t.block.raw.intEnable == 0xFA) = true := by decide +kernel
/-- V-W-3 -/
theorem test_start : check (.wb01DmaControl 0x03)
    (withBlock (fun b => { b with latchedStartPlay := 0x010000, latchedEndPlay := 0x010008 }))
    (fun t => t.block.playDma.isRunning && t.block.playDma.loopMode && t.block.playDma.frameStart == 0x010000
      && t.block.playDma.frameLen == 8 && !t.block.recDma.isRunning) = true := by decide +kernel
/-- V-W-5: a stop zeroes the counter, keeps the slot and pulses nothing. -/
theorem test_stop : check (.wb01DmaControl 0x00) (playingWith (fun c => { c with frameCounter := 1, slot := 1 }))
    (fun t => !t.block.playDma.isRunning && t.block.playDma.frameCounter == 0 && t.block.playDma.slot == 1
      && t.events == playing.events) = true := by decide +kernel
/-- V-PLAY-7: a wrapping frame is loaded with a warning. -/
theorem test_degenerate_start : check (.wb01DmaControl 0x01)
    (withBlock (fun b => { b with latchedStartPlay := 0xFFFFFC, latchedEndPlay := 0x000002 }))
    (fun t => t.block.playDma.frameLen == 6 && t.events.getLast? == some (.logDegenerateFrame .play)) = true := by
  decide +kernel
/-- V-W-7, last write -/
theorem test_latch_start : check (.wb03FrameStartHi 0x12)
    (withBlock (fun b => { b with raw := { b.raw with startMid := 0x34, startLo := 0x57 } }))
    (fun t => t.block.latchedStartPlay == 0x123456 && t.block.latchedStartRec == 0) = true := by decide +kernel
/-- V-W-6, with REC selected -/
theorem test_latch_start_rec : check (.wb07FrameStartLo 0x56)
    (withBlock (fun b => { b with dmaSelected := true, raw := { b.raw with startHi := 0x12, startMid := 0x34 } }))
    (fun t => t.block.latchedStartRec == 0x123456 && t.block.latchedStartPlay == 0) = true := by decide +kernel
/-- V-W-11, last write -/
theorem test_latch_end : check (.wb0FFrameEndHi 0x01)
    (withBlock (fun b => { b with raw := { b.raw with endLo := 0x09 } }))
    (fun t => t.block.latchedEndPlay == 0x010008 && t.block.raw.endLo == 0x09) = true := by decide +kernel
/-- V-W-10 -/
theorem test_count_low_refused : refuses (.wb0DFrameCountLo 0x10) State.reset .unmodelledFrameCountWrite = true := by
  decide +kernel
/-- V-W-12: two tracks halve the period (159.78907841649024). -/
theorem test_track_control : check (.wb20TrackControl 0x11) (withBlock (fun b => { b with steFrequencyIndex := 3 }))
    (fun t => t.block.playTracks == 2 && t.block.trackMonitored == 1 && t.block.oscA.cpt == 0x4063F940216119C3) = true := by
  decide +kernel
/-- V-W-14: 319.5781568329805, unmuted -/
theorem test_sound_mode : check (.wb21SoundMode 0x03) State.reset
    (fun t => t.block.oscA.cpt == 0x4073F940216119C3 && !t.block.isDacMuted && t.block.isStereo && !t.block.is16Bit) = true := by
  decide +kernel
/-- V-W-24: `cpt(B)` is 256.0 -/
theorem test_int_divider : check (.wb35IntDivider 0x31) State.reset
    (fun t => t.block.internalFrequencyDivider == 1 && t.block.oscB.cpt == 0x4070000000000000 && !t.block.isDacMuted) = true := by
  decide +kernel
/-- V-W-17 -/
theorem test_source_selector : check (.wb31SrcSelLo 0xC9) State.reset (fun t =>
    !t.block.dspTx.isTristated && t.block.dspXmitFreqSel == 0b10 && t.block.dspTx.isHandshakeMode
      && t.block.dmaPlayFreqSel == 0b00 && !t.block.playDma.connectedToDspHandshake) = true := by decide +kernel
/-- V-W-18 -/
theorem test_destination_selector : check (.wb32DstSelHi 0x60) State.reset (fun t =>
    t.block.adc.connectedToCodec && !t.block.playDma.connectedToCodec && !t.block.dspTx.connectedToCodec) = true := by
  decide +kernel
/-- V-W-20 -/
theorem test_record_handshake : check (.wwEven 0x32 0x0002) State.reset (fun t =>
    t.block.dspTx.connectedToDma && t.block.dspTx.connectedToDmaHandshake && t.block.recDma.connectedToDspHandshake) = true := by
  decide +kernel
/-- V-W-31 -/
theorem test_long_write : check (.wlEven 0x30 0x00096000) State.reset (fun t =>
    t.block.adc.connectedToCodec && !t.block.playDma.connectedToDspHandshake && t.block.raw.srcLo == 0x09
      && t.block.raw.dstHi == 0x60) = true := by decide +kernel
/-- V-REF-3: refused as a whole -/
theorem test_word_write_refused : refuses (.wwEven 0x0C 0x1234) State.reset .unmodelledFrameCountWrite = true := by
  decide +kernel
/-- The word write's first byte is DMA control and selects PLAY, so its second is refused; or REC, and it is stored. -/
theorem test_word_write_selects_first : refuses (.wwEven 0x0C 0x0010) controlFirst .unmodelledFrameCountWrite = true ∧
    check (.wwEven 0x0C 0x8010) controlFirst (fun t => t.block.raw.countLo == 0x10) = true := by decide +kernel
/-- V-W-26 -/
theorem test_rec_tracks : check (.wb36RecTracks 0x03) State.reset (fun t => t.block.recordTracks == 4) = true := by
  decide +kernel
/-- V-W-27, V-W-28, V-W-29 -/
theorem test_plain_writes : check (.wb3BAtten1 0xF0) State.reset (fun t => t.block.raw.atten1 == 0xF0) = true ∧
    check (.wb3CCodecStatusHi 0x12) State.reset (fun t => t == State.reset) = true ∧
    check (.wb14Unassigned 0x55) State.reset (fun t => t == State.reset) = true := by decide +kernel

/-- R303's bits are the layout table's: the exchanged play-run bit starts DMA-play, by a byte write and by a word write. -/
theorem test_layout_writes : check (.wb01DmaControl 0x80) swappedMap (fun t =>
      t.block.playDma.isRunning && !t.block.dmaSelected) = true ∧
    check (.wwEven 0x00 0x8100) swappedMap (fun t =>
      t.block.playDma.isRunning && t.block.dmaSelected && t.block.raw.dmaControl == 0x81 && t.block.raw.intEnable == 0) = true := by
  decide +kernel
/-- R337: `select` with the channel running neither stops it nor changes a run bit; `setstart` latches the even address. -/
theorem test_pseudo : check (select .record running) running (fun t =>
      t.block.dmaSelected && t.block.playDma.isRunning && t.block.raw.dmaControl == 0x91 && t.events == running.events) = true ∧
    (match runAll (setStart 0x123457) State.reset with
      | .next t => t.block.latchedStartPlay == 0x123456
      | _ => false) = true := by decide +kernel

/-! ### Register reads (95 section 2.3) -/

/-- V-R-1 -/
theorem test_read_stored : check .rb00IntEnable (withBlock (fun b => { b with raw := { b.raw with intEnable := 0xF5 } }))
    (fun t => t.results == [.byte 0xF5]) = true := by decide +kernel
/-- V-R-5 -/
theorem test_read_live : check .rb09FrameCountHi (playingWith (fun c => { c with frameStart := 0x01FFFE, frameCounter := 2 }))
    (fun t => t.results == [.byte 0x02]) = true := by decide +kernel
/-- V-R-6 -/
theorem test_read_latched : check .rb0DFrameCountLo
    (withBlock (fun b => { b with dmaSelected := true, latchedStartRec := 0x123456 }))
    (fun t => t.results == [.byte 0x56]) = true := by decide +kernel
/-- V-R-9 -/
theorem test_read_word : check (.rwEven 0x30)
    (withBlock (fun b => { b with raw := { b.raw with srcHi := 0x12, srcLo := 0x34 } }))
    (fun t => t.results == [.word 0x1234]) = true := by decide +kernel
/-- V-ENC-4: `S:D` -/
theorem test_read_long : check (.rlEven 0x30)
    (withBlock (fun b => { b with raw := { b.raw with srcHi := 0x12, srcLo := 0x34, dstHi := 0x56, dstLo := 0x78 } }))
    (fun t => t.results == [.long 0x12345678]) = true := by decide +kernel
/-- V-R-11 -/
theorem test_read_codec_status : check .rb3CCodecStatusHi State.reset (fun t => t.results == [.byte 0]) = true := by
  decide +kernel
/-- V-REF-2 -/
theorem test_misaligned : refuses (.wwOdd 0x01 0) State.reset .misaligned = true ∧
    refuses (.rlOdd 0x01) State.reset .misaligned = true := by decide +kernel

/-! ### Fires and the transfer engine (95 sections 2.4, 2.5) -/

/-- V-SCH-1: the reset's events; 2556.727388942154 -/
theorem test_reset : check .resetCold poweredOn (fun t =>
    t.block.epoch == 1 && t.block.oscA.acc == 0x40A3F9746C52CC0C && t.block.oscA.consumed == 2556
      && t.events == [.scheduleRelative 2556 .a 1, .scheduleRelative 2556 .b 1]) = true := by decide +kernel
/-- V-RST-2: a warm reset is a cold one. -/
theorem test_warm_reset : check .resetWarm playing (fun t =>
    t.block == resetBlock exampleParams 2 && t.memory == playing.memory) = true := by decide +kernel
/-- V-SCH-11: `Ack`, `Sched(A, 2557)`, the ADC's side moves on. -/
theorem test_fire_a : check (.fireA 1) State.reset (fun t =>
    t.block.adc.side == .right && t.events.drop 2 == [.acknowledge, .scheduleRelative 2557 .a 1]) = true := by decide +kernel
/-- V-SCH-6, but at the reset rate: no sub-flow in legacy mode. -/
theorem test_fire_b : check (.fireB 1) State.reset (fun t =>
    t.block.adc.side == .left && t.events.drop 2 == [.acknowledge, .scheduleRelative 2557 .b 1]) = true := by decide +kernel
/-- V-SCH-10: a stale fire -/
theorem test_stale_fire : check (.fireA 0) State.reset (fun t => t.events.drop 2 == [.acknowledge]) = true := by
  decide +kernel
/-- V-PLAY-1 -/
theorem test_play_byte : check (.fireA 1) playing (fun t =>
    t.block.dac.left.head? == some (-8128) && t.block.playDma.slot == 1 && t.block.playDma.frameCounter == 1
      && t.events[3]? == some (.memRead 0x010000)) = true := by decide +kernel
/-- V-SRC-4 (b), 4th tick: GPIO, then TIMER_A, and the channel stops. -/
theorem test_play_ends : check (.fireA 1) (playingWith (fun c => { c with frameCounter := 3, slot := 1 })) (fun t =>
    pulses t.events == [.gpio, .timerA] && !t.block.playDma.isRunning && t.block.playDma.frameCounter == 0
      && t.block.dac.wr == 1 && t.block.dacPending == f64One) = true := by decide +kernel
/-- V-EOF-2: the reload takes the latched bounds. -/
theorem test_play_reloads : check (.fireA 1)
    (updBlock (fun b => { b with latchedStartPlay := 0x003000, latchedEndPlay := 0x003002 })
      (playingWith (fun c => { c with frameCounter := 3, loopMode := true })))
    (fun t => t.block.playDma.frameStart == 0x003000 && t.block.playDma.frameLen == 2 && t.block.playDma.isRunning) = true := by
  decide +kernel
/-- V-SRC-5: an even mono slot does not advance, an odd one does. -/
theorem test_play_mono :
    check (.fireA 1) (updBlock (fun b => { b with isStereo := false }) playing)
      (fun t => t.block.playDma.frameCounter == 0) = true ∧
    check (.fireA 1) (updBlock (fun b => { b with isStereo := false }) (playingWith (fun c => { c with slot := 1 })))
      (fun t => t.block.playDma.frameCounter == 1) = true := by decide +kernel
/-- V-PLAY-3: a gated channel waits. -/
theorem test_play_gated : check (.fireA 1) (playingWith (fun c => { c with connectedToDspHandshake := true })) (fun t =>
    t.block.playDma.frameCounter == 0 && t.events.drop 2 == [.acknowledge, .scheduleRelative 2557 .a 1]) = true := by
  decide +kernel
/-- V-SRC-7: one sample, in the DAC and in record memory -/
theorem test_copy : check (.fireA 1) copying (fun t =>
    t.block.dac.left.head? == some 0x8134 && memLookup t.memory 0x020000 == some 0x81
      && memLookup t.memory 0x020001 == some 0x34 && t.block.recDma.frameCounter == 2) = true := by decide +kernel
/-- V-REC-3: the low byte of a 16-bit sample -/
theorem test_record_byte :
    (memLookup (dmaRecordSink 0x1234 (updBlock (fun b => { b with is16Bit := false }) copying)).memory 0x020000)
      = some 0x34 := by decide +kernel
/-- The example of 43 R715 -/
theorem test_transmit : check (.fireA 1) transmitting (fun t =>
    t.block.dac.right.head? == some 0x0100 && t.block.dac.wr == 1 && t.block.dspTx.wordCount == 0
      && t.events[3]? == some (.dspFrameSyncIn .tx false)) = true := by decide +kernel
/-- V-TX-3's form with the flag set: one word into record memory, no line driven -/
theorem test_handshake : check (.fireA 1) handshaking (fun t =>
    memLookup t.memory 0x00A000 == some 0x00 && !t.block.recDma.handshakeFrame && t.block.dspTx.wordCount == 1
      && t.events[3]? == some .dspReadTx) = true := by decide +kernel
/-- V-ADC-1 -/
theorem test_adc : check (.fireA 1) sampling (fun t =>
    t.block.adcBuf.rd == 6 && t.block.adc.side == .left && t.events.drop 3 ==
      [.dspWriteRx (-3), .dspFrameSyncIn .rx false, .dspBitClock .rx, .scheduleRelative 2557 .a 1]) = true := by decide +kernel
/-- V-DAC-1, V-DAC-2 -/
theorem test_dac :
    (dacSink 7 3 (updBlock (fun b => { b with trackMonitored := 1 }) playing)).block.dac.right.head? = some 7 ∧
    dacSink 7 0 (updBlock (fun b => { b with trackMonitored := 1 }) playing)
      = updBlock (fun b => { b with trackMonitored := 1 }) playing := by decide +kernel

/-! ### Host bridge and snapshot (95 section 2.6) -/

/-- V-DRAIN-1 -/
theorem test_drain : check (.drain [(0, 0), (0, 0), (0, 0), (9, 9)]) draining (fun t =>
    t.results == [.mix [(50, -50), (100, -100), (150, -150), (9, 9)]] && t.block.dac.rd == 3
      && t.block.dacPending == f64Zero) = true := by decide +kernel
/-- V-DRAIN-6: truncation toward zero -/
theorem test_average : averageSamples (-3) 0 = -1 ∧ averageSamples 3 0 = 1 := by decide +kernel
/-- V-MIC-2 -/
theorem test_mic : check (.mic [(1, -1), (2, -2), (3, -3), (4, -4)]) draining (fun t =>
    t.block.adcBuf.left == [1, 2, 3, 4, 0, 0, 0, 0] && t.block.adcBuf.right == [-1, -2, -3, -4, 0, 0, 0, 0]
      && t.block.adcBuf.wr == 4) = true := by decide +kernel
/-- V-FSO-1, V-FSO-2 -/
theorem test_fso : check .fsoPlay State.reset (fun t => t.block.playDma.handshakeFrame) = true ∧
    check .fsoRec State.reset (fun t => t.block.recDma.handshakeFrame) = true := by decide +kernel
/-- V-SNAP-1 -/
theorem test_capture : check .capture State.reset (fun t => t.results == [.image State.reset.block]) = true ∧
    check (.restore State.reset.block) State.reset (fun t => t == State.reset) = true := by decide +kernel
/-- V-SNAP-3 -/
theorem test_bad_snapshot : refuses (.restore playing.block) State.reset .badSnapshot = true := by decide +kernel
/-- R207: an image whose active bounds are odd is no block's. -/
theorem test_odd_frame_snapshot : refuses (.restore { State.reset.block with
    playDma := { State.reset.block.playDma with frameStart := 1, frameEnd := 1 } }) State.reset .badSnapshot = true := by
  decide +kernel
/-- V-REF-1, V-REF-4 -/
theorem test_refusals : refuses .rb00IntEnable poweredOn .notReset = true ∧
    refuses .resetCold { State.reset with params := { exampleParams with cycleFreq := 0x40F86A0000000000 } } .badParameters = true := by
  decide +kernel
/-- The first step after reset runs the operation put before it. -/
theorem test_step :
    (match step (State.reset.withFetchWord 32 0x20000003) with
      | .next t => t.block.playDma.handshakeFrame && t.stream.isEmpty
      | _ => false) = true := by decide +kernel
/-- R213: a store of another agent that comes with the operation is there when the tick reads. -/
theorem test_step_stores :
    (match step { State.reset with stream := [captureOperation] } with
      | .next t => memLookup t.memory 0x001000 == some 0x55 && t.dspWords == [7]
      | _ => false) = true := by decide +kernel
/-- The invariant holds right after reset. -/
theorem reset_inv : Inv State.reset := ⟨by decide +kernel, fun _ => by decide +kernel⟩

/-! ### Witnesses: a concrete state and operands that meet the hypotheses of each claim that has some -/

theorem ready_reset : Ready State.reset := ⟨by decide +kernel, rfl⟩
theorem exampleParams_ok : ParamsOk exampleParams := (paramsValid_iff_paramsOk _).1 ready_reset.1
theorem swapped_ok : LayoutOk swapped := (layoutValid_iff _).1 (by decide +kernel)
theorem ready_swappedMap : Ready swappedMap := ⟨by decide +kernel, rfl⟩
theorem ready_draining : Ready draining := ⟨by decide +kernel, rfl⟩
theorem ready_slowHost : Ready slowHost := ⟨by decide +kernel, rfl⟩

/-- `State.reset` with REC selected. -/
def recSelected : State := withBlock (fun b => { b with dmaSelected := true })

/-- `State.reset` with PLAY selected and `FRAME_COUNT_LOW_PLAY = ignore`. -/
def ignoring : State := { State.reset with params := { exampleParams with frameCountLowPlay := .ignore } }

/-- An instance with an odd base. -/
def oddBase : State := { State.reset with params := { exampleParams with regBase := 0xFF8901 } }

theorem inv_running : Inv running := ⟨by decide +kernel, fun _ => by decide +kernel⟩

/-- An oscillator A that nothing has been added to (42 R612). -/
def unstarted : State := withBlock (fun b => { b with oscA := { b.oscA with acc := f64Zero, consumed := 0 } })

/-- Both periods 0, which no run reaches. -/
def stalled : State :=
  withBlock (fun b => { b with oscA := { b.oscA with cpt := f64Zero }, oscB := { b.oscB with cpt := f64Zero } })

/-- `playing` with the looping or the one-shot frame its latches give, 8-bit or 16-bit. -/
def streaming (loop is16 : Bool) : State :=
  updBlock (fun b => { b with is16Bit := is16 }) (playingWith (fun c => { c with loopMode := loop }))

theorem witness_DecodeOfEncode : LayoutOk exampleParams.layout ∧ LayoutOk swapped ∧
    wellFormed 0xFF8900 defaultLayout (.wlEven 0x3C 5) = true ∧ wellFormed 0xFFFFC0 defaultLayout (.rlEven 0x3C) = true ∧
    wellFormed 0xFF8900 swapped (.wb01DmaControl 3) = true ∧ wellFormed 0xFF8900 defaultLayout (.rwOdd 0x3F) = true :=
  ⟨exampleParams_ok.2, swapped_ok, by decide⟩
theorem witness_EncodeOfDecode : LayoutOk exampleParams.layout ∧ LayoutOk swapped ∧
    decode 0xFF8900 defaultLayout 0x18FF893C#32 (.long 5) = .ok (.wlEven 0x3C 5) ∧
    decode 0xFF8900 swapped 0x10FF8900#32 (.byte 3) = .ok (.wb01DmaControl 3) := ⟨exampleParams_ok.2, swapped_ok, by decide⟩
theorem witness_LegalDescriptorsDecode : (0xFFFFC0#24).toNat + 64 ≤ 2 ^ 24 ∧
    ¬IllegalDescriptor 0xFFFFC0 0x00FFFFFF ∧ ¬IllegalDescriptor 0xFFFFC0 0x10FFFFC0 ∧
    ¬IllegalDescriptor 0xFFFFC0 0x04FFFFFE ∧ ¬IllegalDescriptor 0xFFFFC0 0x08FFFFFC ∧
    ¬IllegalDescriptor 0xFFFFC0 0x20000001 ∧ ¬IllegalDescriptor 0xFFFFC0 0x2000000A := by
  simp only [IllegalDescriptor, BadBits, AddressOutside, OddWide, PastTheEnd]; and_intros <;> decide
/-- One for each case of R334, at a boundary, in each clause the case falls under; and an operand of the wrong kind. -/
theorem witness_ReservedDescriptorsRefused :
    ({ State.reset with stream := [plainOperation 0x30000000 .none] } : State).stream
      = plainOperation 0x30000000 .none :: [] ∧
    Ready { State.reset with stream := [plainOperation 0x04FF893F .none] } ∧
    (BadBits 0x30000000 ∧ BadBits 0x0CFF8900 ∧ BadBits 0x11FF8901 ∧ BadBits 0x20000101 ∧ BadBits 0x20000000 ∧
      BadBits 0x2000000B) ∧
    (¬BadBits 0x10FF8940 ∧ AddressOutside 0xFF8900 0x10FF8940 ∧ ¬BadBits 0x10FF88FF ∧
      AddressOutside 0xFF8900 0x10FF88FF) ∧
    (¬BadBits 0x04FF893F ∧ ¬AddressOutside 0xFF8900 0x04FF893F ∧ OperandFits 0x04FF893F .none ∧
      OddWide 0x04FF893F ∧ PastTheEnd 0xFF8900 0x04FF893F) ∧
    (¬BadBits 0x08FF893E ∧ ¬AddressOutside 0xFF8900 0x08FF893E ∧ OperandFits 0x08FF893E .none ∧
      ¬OddWide 0x08FF893E ∧ PastTheEnd 0xFF8900 0x08FF893E) ∧
    (¬BadBits 0x20000001 ∧ ¬AddressOutside 0xFF8900 0x20000001 ∧ ¬OperandFits 0x20000001 .none) :=
  ⟨rfl, ready_reset, by
    simp only [BadBits, AddressOutside, OddWide, PastTheEnd, OperandFits]; and_intros <;> decide⟩
theorem witness_StepRunsTheDecodedOperation :
    ({ State.reset with stream := [captureOperation] } : State).stream = captureOperation :: [] ∧
    decode State.reset.params.regBase State.reset.params.layout captureOperation.descriptor captureOperation.operand
      = .ok .capture ∧
    State.reset.stream = [] := ⟨rfl, by decide +kernel, rfl⟩
/-- One broken constraint each: a cycle frequency too low, a host rate of 0, no DAC buffer, no ADC buffer; a layout table
with two registers at one offset, and one with two fields on one bit. -/
theorem witness_BadParametersRefuseEverything : ¬ParamsOk { exampleParams with cycleFreq := 0x40F86A0000000000 } ∧
    ¬ParamsOk { exampleParams with hostRate := 0 } ∧ ¬ParamsOk { exampleParams with dacCap := 0 } ∧
    ¬ParamsOk { exampleParams with adcCap := 0 } ∧
    ¬ParamsOk { exampleParams with layout := { defaultLayout with offsets := defaultLayout.offsets.set 0 0x01 } } ∧
    ¬ParamsOk { exampleParams with layout := { defaultLayout with playRun := 7 } } := by
  simp only [← paramsValid_iff_paramsOk]; decide +kernel
theorem witness_NotResetRefusesAllButReset : ParamsOk poweredOn.params ∧ poweredOn.hasReset = false ∧
    isReset .capture = false ∧ isReset .resetWarm = true ∧ ∃ t, exec .resetWarm poweredOn = .next t :=
  ⟨exampleParams_ok, rfl, rfl, rfl, next_of_check (f := fun _ => true) (by decide +kernel)⟩
theorem witness_OddAccessesAreRefused : Ready State.reset ∧ (State.reset.params.regBase.toNat + (0x01#6).toNat) % 2 = 1 ∧
    Ready oddBase ∧ (oddBase.params.regBase.toNat + (0x00#6).toNat) % 2 = 1 :=
  ⟨ready_reset, by decide, ⟨by decide +kernel, rfl⟩, by decide⟩
theorem witness_ResetGivesTheResetTable : ParamsOk State.reset.params ∧ f64IsFinite (resetCpt State.reset.params) = true ∧
    isReset .resetCold = true ∧ isReset .resetWarm = true := ⟨exampleParams_ok, by decide +kernel, rfl, rfl⟩
theorem witness_FirstResetGivesTheResetState : ParamsOk exampleParams ∧ f64IsFinite (resetCpt exampleParams) = true :=
  ⟨exampleParams_ok, by decide +kernel⟩
theorem witness_InvariantAtReset : ParamsOk exampleParams ∧ ParamsOk swappedMap.params :=
  ⟨exampleParams_ok, (paramsValid_iff_paramsOk _).1 ready_swappedMap.1⟩
theorem witness_EveryStepKeepsTheInvariant : Inv { State.reset with stream := [captureOperation] } ∧
    ∃ t, step { State.reset with stream := [captureOperation] } = .next t :=
  ⟨reset_inv, next_of_check (i := .capture) (s := arrive captureOperation [] State.reset) (f := fun _ => true)
    (by decide +kernel)⟩
theorem witness_StaleFiresOnlyAcknowledge : Ready State.reset ∧ 0 ≠ State.reset.block.epoch ∧ 2 ≠ State.reset.block.epoch :=
  ⟨ready_reset, by decide, by decide⟩
theorem witness_DiscardedWritesChangeNothing : Ready State.reset ∧ .wb3CCodecStatusHi 0x12 ∈ discardedWrites 0x12 ∧
    .wb3FUnassigned 0xFF ∈ discardedWrites 0xFF := ⟨ready_reset, by decide, by decide⟩
theorem witness_PassThroughWritesOnlyStore : Ready State.reset ∧
    (.wb09FrameCountHi 0xFF, { State.reset.block.raw with countHi := 0xFF }) ∈ storeOnlyWrites 0xFF State.reset.block.raw ∧
    (.wb3BAtten1 0x00, { State.reset.block.raw with atten1 := 0x00 }) ∈ storeOnlyWrites 0x00 State.reset.block.raw :=
  ⟨ready_reset, by simp [storeOnlyWrites], by simp [storeOnlyWrites]⟩
theorem witness_InterruptEnableAndRecordTrackWrites : Ready State.reset ∧ Ready swappedMap := ⟨ready_reset, ready_swappedMap⟩
theorem witness_DmaControlWrite : Ready State.reset ∧ Ready swappedMap := ⟨ready_reset, ready_swappedMap⟩
/-- PLAY selected after reset, and both channels running. -/
theorem witness_PseudoOperationsExpand : Ready State.reset ∧ Inv State.reset ∧ Ready running ∧ Inv running :=
  ⟨ready_reset, reset_inv, ⟨by decide +kernel, by decide +kernel⟩, inv_running⟩
theorem witness_FrameAddressWritesLatch : Ready State.reset ∧ Ready recSelected ∧
    (.wb07FrameStartLo 0xFF, { State.reset.block.raw with startLo := 0xFF }) ∈ frameStartWrites 0xFF State.reset.block.raw ∧
    (.wb0FFrameEndHi 0xFF, { State.reset.block.raw with endHi := 0xFF }) ∈ frameEndWrites 0xFF State.reset.block.raw :=
  ⟨ready_reset, ready_reset, by simp [frameStartWrites], by simp [frameEndWrites]⟩
/-- PLAY selected and REC selected, both channels stopped. -/
theorem witness_FrameStartInAnyOrder : Ready State.reset ∧ State.reset.block.dmaSelected = false ∧
    State.reset.block.playDma.isRunning = false ∧ Ready recSelected ∧ recSelected.block.dmaSelected = true ∧
    recSelected.block.recDma.isRunning = false ∧
    ([.wb07FrameStartLo 0xFF, .wb03FrameStartHi 0xFF, .wb05FrameStartMid 0xFF] : List Instr).Perm
      [.wb03FrameStartHi 0xFF, .wb05FrameStartMid 0xFF, .wb07FrameStartLo 0xFF] :=
  ⟨ready_reset, rfl, rfl, ready_reset, rfl, rfl, by decide⟩
theorem witness_FrameCountLowWrite : (Ready recSelected ∧ CountLoOpen recSelected) ∧
    (Ready ignoring ∧ CountLoOpen ignoring) ∧ (Ready State.reset ∧ ¬CountLoOpen State.reset) :=
  ⟨⟨ready_reset, .inl rfl⟩, ⟨⟨by decide +kernel, rfl⟩, .inr rfl⟩, ready_reset, by unfold CountLoOpen; decide +kernel⟩
theorem witness_RecomputingWrites : Ready State.reset := ready_reset
theorem witness_SourceSelectorWrites : Ready State.reset ∧
    (.wb30SrcSelHi 0xFF, { State.reset.block.raw with srcHi := 0xFF }) ∈ sourceWrites 0xFF State.reset.block.raw ∧
    (.wb31SrcSelLo 0xFF, { State.reset.block.raw with srcLo := 0xFF }) ∈ sourceWrites 0xFF State.reset.block.raw ∧
    Inv State.reset ∧ State.reset.params.layout = defaultLayout :=
  ⟨ready_reset, by simp [sourceWrites], by simp [sourceWrites], reset_inv, rfl⟩
theorem witness_DestinationSelectorWrites : Ready State.reset ∧
    (.wb32DstSelHi 0xFF, { State.reset.block.raw with dstHi := 0xFF }) ∈ destinationWrites 0xFF State.reset.block.raw ∧
    (.wb33DstSelLo 0xFF, { State.reset.block.raw with dstLo := 0xFF }) ∈ destinationWrites 0xFF State.reset.block.raw ∧
    Inv State.reset ∧ State.reset.params.layout = defaultLayout :=
  ⟨ready_reset, by simp [destinationWrites], by simp [destinationWrites], reset_inv, rfl⟩
/-- The last word and long of the window; a word and a long that reach 0x0D, where that is open and where it is not; and,
with DMA control just before it, a word and a long that select PLAY, or REC, on the way. -/
theorem witness_WideWritesAreByteWrites : (Ready State.reset ∧ (State.reset.params.regBase.toNat + (0x3E#6).toNat) % 2 = 0 ∧
      (0x3E#6).toNat + 2 ≤ 64 ∧ State.reset.params.regBase.toNat + (0x3E#6).toNat + 2 ≤ 2 ^ 24 ∧
      (0x3C#6).toNat + 4 ≤ 64 ∧ State.reset.params.regBase.toNat + (0x3C#6).toNat + 4 ≤ 2 ^ 24 ∧
      WideWriteOpen State.reset 0x3E [0, 0] ∧ WideWriteOpen State.reset 0x0E [0, 0, 0, 0]) ∧
    (¬WideWriteOpen State.reset 0x0C [0, 0] ∧ ¬WideWriteOpen State.reset 0x0A [0, 0, 0, 0]) ∧
    (Ready recSelected ∧ WideWriteOpen recSelected 0x0C [0, 0] ∧ WideWriteOpen recSelected 0x0A [0, 0, 0, 0]) ∧
    (Ready ignoring ∧ WideWriteOpen ignoring 0x0C [0, 0]) ∧
    (Ready controlFirst ∧ controlFirst.block.dmaSelected = true ∧ controlFirst.params.frameCountLowPlay = .refuse ∧
      ¬WideWriteOpen controlFirst 0x0C [0x00, 0] ∧ WideWriteOpen controlFirst 0x0C [0x80, 0] ∧
      ¬WideWriteOpen controlFirst 0x0A [0, 0, 0x00, 0] ∧ WideWriteOpen controlFirst 0x0A [0, 0, 0x80, 0]) := by
  refine ⟨⟨ready_reset, ?_⟩, ?_, ⟨ready_reset, ?_⟩, ⟨⟨by decide +kernel, rfl⟩, ?_⟩, ⟨by decide +kernel, rfl⟩, ?_⟩ <;>
    simp only [WideWriteOpen] <;> decide +kernel
theorem witness_StoredByteReads : Ready State.reset ∧ (.rb00IntEnable, State.reset.block.raw.intEnable) ∈ storedReads State.reset.block.raw ∧
    (.rb3BAtten1, State.reset.block.raw.atten1) ∈ storedReads State.reset.block.raw :=
  ⟨ready_reset, by simp [storedReads], by simp [storedReads]⟩
theorem witness_LiveAddressReads : Ready State.reset ∧ Ready playing := ⟨ready_reset, ready_reset⟩
theorem witness_CodecStatusReadsZero : Ready State.reset := ready_reset
theorem witness_UnassignedReadsAreDraws : Ready State.reset ∧ .rb02Unassigned ∈ unassignedReads ∧
    .rb3FUnassigned ∈ unassignedReads := ⟨ready_reset, by decide, by decide⟩
/-- The last word and the last long of the window. -/
theorem witness_WideReadsAreByteReads : Ready State.reset ∧ (State.reset.params.regBase.toNat + (0x3E#6).toNat) % 2 = 0 ∧
    (0x3E#6).toNat + 2 ≤ 64 ∧ State.reset.params.regBase.toNat + (0x3E#6).toNat + 2 ≤ 2 ^ 24 ∧
    (State.reset.params.regBase.toNat + (0x3C#6).toNat) % 2 = 0 ∧ (0x3C#6).toNat + 4 ≤ 64 ∧
    State.reset.params.regBase.toNat + (0x3C#6).toNat + 4 ≤ 2 ^ 24 :=
  ⟨ready_reset, by decide, by decide, by decide, by decide, by decide, by decide⟩
theorem witness_ReadsChangeNoState : isBusRead (.rlEven 0x3C) = true ∧ ∃ t, exec (.rlEven 0x3C) State.reset = .next t :=
  ⟨by decide, next_of_check (f := fun _ => true) (by decide +kernel)⟩
theorem witness_ReadAfterWrite : (∃ t, exec (byteWriteForm 0x3B 0xFF) State.reset = .next t) ∧
    ∃ t, exec (byteWriteForm 0x01 0xFF) State.reset = .next t :=
  ⟨next_of_check (f := fun _ => true) (by decide +kernel), next_of_check (f := fun _ => true) (by decide +kernel)⟩
theorem witness_PeriodIsAtLeastOneCycle : MeetsR12 exampleParams ∧ 1 ≤ State.reset.block.playTracks ∧ State.reset.block.playTracks ≤ 4 :=
  ⟨exampleParams_ok.1, by decide, by decide⟩
theorem witness_OscillatorsNeverStall : Ready State.reset ∧ Inv State.reset ∧ f64IsFinite (oscOf .a State.reset.block).cpt = true ∧
    f64IsFinite (oscOf .a State.reset.block).acc = true ∧ 0 ≤ f64Units (oscOf .a State.reset.block).acc ∧
    f64Units (oscOf .a State.reset.block).acc < 2 ^ 53 * 2 ^ 1074 :=
  ⟨ready_reset, reset_inv, by decide +kernel, by decide +kernel, by decide +kernel, by decide +kernel⟩
/-- Two fires of A and one of B; and a fire from an accumulator of 0, at the bounds of the last clauses. -/
theorem witness_SchedulingDoesNotDrift : (∃ t, ticksOf .a (1 + 1) State.reset = .next t) ∧
    (∃ t, ticksOf .b (0 + 1) State.reset = .next t) ∧ (∃ t, ticksOf .a (0 + 1) unstarted = .next t) ∧
    f64IsFinite (oscOf .a unstarted.block).cpt = true ∧ 0 < f64Units (oscOf .a unstarted.block).cpt ∧
    (oscOf .a unstarted.block).acc = f64Zero ∧ (oscOf .a unstarted.block).consumed = 0 ∧
    f64Units (oscOf .a unstarted.block).cpt ≤ 2 ^ 12 * 2 ^ 1074 ∧ f64Units (oscOf .a unstarted.block).cpt ≤ 2 ^ 20 * 2 ^ 1074 :=
  ⟨next_of_ticks (by decide +kernel), next_of_ticks (by decide +kernel), next_of_ticks (by decide +kernel),
    by decide +kernel, by decide +kernel, rfl, rfl, by decide +kernel, by decide +kernel⟩
theorem witness_FireARunsWhatItClocks : Ready State.reset ∧
    1 ≤ ffloor (fadd State.reset.block.oscA.acc State.reset.block.oscA.cpt) - State.reset.block.oscA.consumed ∧
    ffloor (fadd stalled.block.oscA.acc stalled.block.oscA.cpt) - stalled.block.oscA.consumed < 1 ∧
    0 ≠ State.reset.block.epoch := ⟨ready_reset, by decide +kernel, by decide +kernel, by decide⟩
theorem witness_FireBRunsWhatItClocks : Ready State.reset ∧
    1 ≤ ffloor (fadd State.reset.block.oscB.acc State.reset.block.oscB.cpt) - State.reset.block.oscB.consumed ∧
    ffloor (fadd stalled.block.oscB.acc stalled.block.oscB.cpt) - stalled.block.oscB.consumed < 1 ∧
    0 ≠ State.reset.block.epoch := ⟨ready_reset, by decide +kernel, by decide +kernel, by decide⟩
/-- A stopped channel, a waiting one, a running one, and one the DSP has let go. -/
theorem witness_PlayTickMovesTheChannel : ¬PlayMoves State.reset ∧
    ¬PlayMoves (playingWith (fun c => { c with connectedToDspHandshake := true })) ∧ PlayMoves playing ∧
    PlayMoves (playingWith (fun c => { c with connectedToDspHandshake := true, handshakeFrame := true })) := by
  unfold PlayMoves; decide +kernel
/-- 8-bit to the DAC alone, and 16-bit to the DAC, DMA-record and DSP-receive. -/
theorem witness_PlayTickFeedsItsDestinations : PlayMoves playing ∧ playing.block.is16Bit = false ∧
    (let s := updDma .play (fun c => { c with connectedToDsp := true }) copying
     PlayMoves s ∧ s.block.is16Bit = true ∧ s.block.playDma.connectedToDma = true) ∧
    memLookup playing.memory 0x010000 = some 0x81 ∧ memLookup playing.memory 0x010001 = some 0x34 := by
  unfold PlayMoves; decide +kernel
/-- Track 1 is monitored: slots 2 and 3 are taken, 0 and 4 are not. -/
theorem witness_DacAndDspReceiveSinks :
    (withBlock (fun b => { b with trackMonitored := 1 })).block.trackMonitored.toNat * 2 = 2 ∧
    State.reset.block.dspRx.isTristated = true ∧ sampling.block.dspRx.isTristated = false := ⟨rfl, rfl, rfl⟩
theorem witness_RecordSinkStoresTheSample : State.reset.block.recDma.isRunning = false ∧
    copying.block.recDma.isRunning = true ∧ copying.block.is16Bit = true ∧
    handshaking.block.recDma.isRunning = true ∧ handshaking.block.is16Bit = false := ⟨rfl, rfl, rfl, rfl, rfl⟩
theorem witness_FanOutReachesDacAndMemory : PlayMoves copying ∧ copying.block.is16Bit = true ∧
    copying.block.isDacMuted = false ∧ copying.block.playDma.connectedToDma = true ∧
    copying.block.playDma.connectedToCodec = true ∧ copying.block.recDma.isRunning = true ∧
    copying.block.playDma.slot = copying.block.trackMonitored.toNat * 2 ∧
    (updDma .play (fun c => { c with slot := 1 }) copying).block.playDma.slot
      = copying.block.trackMonitored.toNat * 2 + 1 ∧
    copying.block.dac.wr < copying.block.dac.left.length ∧ copying.block.dac.wr < copying.block.dac.right.length ∧
    memLookup copying.memory 0x010000 = some 0x81 ∧ memLookup copying.memory 0x010001 = some 0x34 := by
  unfold PlayMoves; decide +kernel
theorem witness_DspTransmitTick : State.reset.block.dspTx.isTristated = true ∧
    (handshaking.block.dspTx.isTristated = false ∧ handshaking.block.dspTx.connectedToDmaHandshake = true ∧
      handshaking.block.recDma.handshakeFrame = true) ∧
    (updDma .record (fun c => { c with handshakeFrame := false }) handshaking).block.recDma.handshakeFrame = false ∧
    transmitting.block.dspTx.isTristated = false ∧ transmitting.block.dspTx.connectedToDmaHandshake = false :=
  ⟨rfl, ⟨rfl, rfl, rfl⟩, rfl, rfl, rfl⟩
theorem witness_AdcTickAlternates : (sampling.block.adc.connectedToDma = false ∧
      sampling.block.adc.connectedToDsp = true ∧ sampling.block.dspRx.isTristated = false) ∧
    (let s := updBlock (fun b => { b with adc := { b.adc with connectedToDma := true } }) copying
     s.block.adc.connectedToDma = true ∧ s.block.recDma.isRunning = true ∧ s.block.is16Bit = true) :=
  ⟨⟨rfl, rfl, rfl⟩, rfl, rfl, rfl⟩
theorem witness_LoopedFrameRepeats : Streams (streaming true false) 1 4 ∧ (streaming true false).block.playDma.loopMode = true ∧
    Streams (streaming true true) 2 4 := by
  refine ⟨?_, rfl, ?_⟩ <;> constructor <;> decide +kernel
/-- Both sides of the end of the frame: 3 ticks of one byte, then 4; 1 tick of two bytes, then 2. -/
theorem witness_OneShotFrameEndsOnce : Streams (streaming false false) 1 4 ∧ Streams (streaming false true) 2 4 ∧
    (streaming false false).block.playDma.loopMode = false ∧
    (streaming false false).block.playDma.connectedToDma = false ∧
    1 * 3 < 4 ∧ 4 ≤ 1 * 4 ∧ 2 * 1 < 4 ∧ 4 ≤ 2 * 2 := by
  refine ⟨?_, ?_, rfl, rfl, by decide⟩ <;> constructor <;> decide +kernel
theorem witness_MonoAdvancesEveryOtherTick :
    let s := updBlock (fun b => { b with isStereo := false }) (playingWith (fun c => { c with frameLen := 5 }))
    s.block.playDma.isRunning = true ∧ s.block.playDma.connectedToDspHandshake = false ∧ s.block.is16Bit = false ∧
      s.block.isStereo = false ∧ s.block.playDma.frameCounter + 4 < s.block.playDma.frameLen.toNat := by decide +kernel
theorem witness_HostDrainConvertsTheRate : Ready draining := ready_draining
/-- A ratio of 0 is beyond the bound even for an empty buffer; a ratio of 1 is not for four pairs. -/
theorem witness_MicrophoneFeedConvertsTheRate :
    (let p := slowHost.params
     let ratio := fdiv p.hostRate (tableRate p slowHost.block.internalFrequencyDivider slowHost.block.steFrequencyIndex .a)
     Ready slowHost ∧ f64IsFinite ratio = true ∧ ([] : List StereoPair).length < 2 ^ 1023 ∧
       2 ^ 52 * f64Units ratio ≤ (([] : List StereoPair).length : Int) * 2 ^ 1074) ∧
    (let p := draining.params
     let ratio := fdiv p.hostRate (tableRate p draining.block.internalFrequencyDivider draining.block.steFrequencyIndex .a)
     Ready draining ∧ f64IsFinite ratio = true ∧ 4 < 2 ^ 1023 ∧ (4 : Int) * 2 ^ 1074 < 2 ^ 52 * f64Units ratio) :=
  ⟨⟨ready_slowHost, by decide +kernel⟩, ready_draining, by decide +kernel⟩
theorem witness_FrameSyncOutSetsTheFlag : Ready State.reset := ready_reset
theorem witness_RestoreReplacesTheBlock : (Ready State.reset ∧ GoodImage State.reset.params State.reset.block) ∧
    ¬GoodImage State.reset.params { State.reset.block with latchedStartPlay := 1 } := by
  simp only [← imageOk_iff]; exact ⟨⟨ready_reset, by decide +kernel⟩, by decide +kernel⟩
theorem witness_CaptureThenRestoreIsTheIdentity : Ready State.reset ∧ Inv State.reset ∧ Ready running ∧ running.params = State.reset.params :=
  ⟨ready_reset, reset_inv, ⟨by decide +kernel, by decide +kernel⟩, by decide +kernel⟩
/-- A fire, a drain and a feed. -/
theorem witness_RingBuffersHaveOneWriter : (∃ t, exec (.fireA 1) playing = .next t) ∧
    (∃ t, exec (.drain [(0, 0)]) draining = .next t) ∧ (∃ t, exec (.mic [(1, 2)]) draining = .next t) :=
  ⟨next_of_check (f := fun _ => true) (by decide +kernel), next_of_check (f := fun _ => true) (by decide +kernel),
    next_of_check (f := fun _ => true) (by decide +kernel)⟩
/-- An auto-stop of the play channel, and of the record channel. -/
theorem witness_RegisterFileChangesByAutoStopOnly : isBusWrite (.fireA 1) = false ∧
    (∃ t, exec (.fireA 1) (playingWith (fun c => { c with frameCounter := 3, slot := 1 })) = .next t) ∧
    ∃ t, exec (.fireA 1) handshaking = .next t :=
  ⟨by decide, next_of_check (f := fun _ => true) (by decide +kernel), next_of_check (f := fun _ => true) (by decide +kernel)⟩
theorem witness_ClockChangesByItsCallersOnly : (∃ t, exec (.wb01DmaControl 0xFF) State.reset = .next t) ∧
    mayRecompute defaultLayout (.wb01DmaControl 0xFF) = false ∧ (∃ t, exec (.fireB 1) State.reset = .next t) ∧
    mayRecompute defaultLayout (.wlEven 0x36 1) = false ∧ (∃ t, exec (.wlEven 0x36 1) State.reset = .next t) ∧
    mayRecompute defaultLayout (.wwEven 0x34 1) = true :=
  ⟨next_of_check (f := fun _ => true) (by decide +kernel), by decide, next_of_check (f := fun _ => true) (by decide +kernel),
    by decide, next_of_check (f := fun _ => true) (by decide +kernel), by decide⟩
theorem witness_OnlyFiresReachOutside : (∃ t, exec (.wb01DmaControl 0x01) State.reset = .next t) ∧
    ∃ t, exec (.fireA 1) (playingWith (fun c => { c with frameCounter := 3, slot := 1 })) = .next t :=
  ⟨next_of_check (f := fun _ => true) (by decide +kernel), next_of_check (f := fun _ => true) (by decide +kernel)⟩
theorem witness_FiresLeaveConfigurationAlone : (∃ t, exec (.fireA 1) playing = .next t) ∧
    ∃ t, exec (.fireB 1) playing = .next t :=
  ⟨next_of_check (f := fun _ => true) (by decide +kernel), next_of_check (f := fun _ => true) (by decide +kernel)⟩
/-- A running and a stopped record channel; in the 8-bit format the byte after the one stored is another. -/
theorem witness_FireStoresAtTheRecordAddressOnly : Inv running ∧ running.block.recDma.isRunning = true ∧
    running.block.is16Bit = false ∧ (∃ t, exec (.fireA 1) running = .next t) ∧
    (1#24) ≠ running.block.recDma.frameStart + BitVec.ofNat 24 running.block.recDma.frameCounter ∧
    Inv State.reset ∧ State.reset.block.recDma.isRunning = false ∧ ∃ t, exec (.fireA 1) State.reset = .next t :=
  ⟨inv_running, by decide +kernel, by decide +kernel, next_of_check (f := fun _ => true) (by decide +kernel),
    by decide +kernel, reset_inv, rfl, next_of_check (f := fun _ => true) (by decide +kernel)⟩

end Sys2Proof.Tests
end

/-! PROOFS. The claims of 00_scope.md: what broken parameters refuse (R12 with 60_exceptions.md R902), and the bound that
R12 puts on every oscillator period. -/

namespace Sys2Proof.Machine

/-! ### Refusal of bad parameters -/

/-- With bad parameters no operation runs, whatever it would do. -/
theorem whenReady_of_invalid {s : State} (hp : paramsValid s.params = false) (k : Out) :
    whenReady s k = .refused .badParameters := by simp [whenReady, hp]

/-- With bad parameters no reset runs either. -/
theorem whenValid_of_invalid {s : State} (hp : paramsValid s.params = false) (k : Out) :
    whenValid s k = .refused .badParameters := by simp [whenValid, hp]

/-- Every operation begins with the check of the parameters: the two resets by `whenValid`, every other one by
`whenReady`. -/
theorem exec_of_invalid {s : State} (hp : paramsValid s.params = false) (i : Instr) :
    exec i s = .refused .badParameters := by
  induction i using instr_byForms with
  | byteWrite o d => rw [exec_byteWriteForm, whenReady_of_invalid hp]
  | byteRead o => rw [exec_byteReadForm, whenReady_of_invalid hp]
  | resetCold | resetWarm => exact whenValid_of_invalid hp _
  | _ => exact whenReady_of_invalid hp _

/-- Settles O7: the parameter check of every operation fails exactly where R12 or the layout table's rules do. -/
theorem badParametersRefuseEverything : Obligations.BadParametersRefuseEverything := by
  intro s i hbad
  apply exec_of_invalid
  rwa [← paramsValid_iff_paramsOk, Bool.not_eq_true] at hbad

/-! ### Values that are not negative, by their bits

A value from +0 to +infinity has bits up to `2047 * 2 ^ 52`, the bits of infinity. -/

theorem msb_of_le_inf {x : Binary64} (hx : x.toNat ≤ 2047 * 2 ^ 52) : x.msb = false :=
  BitVec.msb_eq_false_iff_two_mul_lt.2 (by omega)

theorem f64IsNaN_of_le_inf {x : Binary64} (hx : x.toNat ≤ 2047 * 2 ^ 52) : f64IsNaN x = false := by
  simp only [f64IsNaN, f64Exponent, f64Fraction, Bool.and_eq_false_iff, beq_eq_false_iff_ne, bne_eq_false_iff_eq]
  omega

theorem f64IsInf_iff {x : Binary64} (hmsb : x.msb = false) : f64IsInf x = true ↔ x.toNat = 2047 * 2 ^ 52 := by
  rw [BitVec.msb_eq_false_iff_two_mul_lt] at hmsb
  simp only [f64IsInf, f64Exponent, f64Fraction, Bool.and_eq_true, beq_iff_eq]
  omega

/-- A finite value above zero: its bits, and its units are its magnitude. -/
theorem toNat_of_finite_pos {x : Binary64} (hfin : f64IsFinite x = true) (hpos : 0 < f64Units x) :
    0 < x.toNat ∧ x.toNat < 2047 * 2 ^ 52 ∧ f64Units x = f64Magnitude x := by
  have hmsb : x.msb = false := by
    by_contra hneg
    rw [f64Units, if_pos (by simpa using hneg)] at hpos
    omega
  have hne : x.toNat ≠ 0 := by
    intro hz
    obtain rfl : x = 0 := BitVec.eq_of_toNat_eq hz
    exact absurd hpos (by decide)
  have hexp : f64Exponent x ≠ 2047 := by simpa [f64IsFinite] using hfin
  refine ⟨by omega, ?_, by simp [f64Units, hmsb]⟩
  rw [BitVec.msb_eq_false_iff_two_mul_lt] at hmsb
  unfold f64Exponent at hexp
  omega

/-- A finite value above zero has a magnitude. -/
theorem f64Magnitude_pos {x : Binary64} (h0 : 0 < x.toNat) (hx : x.toNat < 2047 * 2 ^ 52) : 0 < f64Magnitude x := by
  rw [f64Magnitude_eq x (by omega)]
  refine Nat.pos_of_ne_zero fun hz => ?_
  have := bits_le_of_magnitude_le hx (hz.trans_le (Nat.zero_le (magnitudeOfBits 0)))
  omega

theorem f64Pack_false_toNat {mag : Nat} (h : mag ≤ 2047 * 2 ^ 52) : (f64Pack false mag).toNat = mag :=
  f64Pack_toNat h

theorem twoPow_shiftLeft (a b e : Nat) : 2 ^ a * 2 ^ (b + e) = 2 ^ e <<< (a + b) := by
  rw [Nat.shiftLeft_eq, ← pow_add, ← pow_add, ← Nat.add_assoc, Nat.add_comm e]

/-- The significand and shift of `2 ^ e`, in units of `2 ^ -1074`. -/
theorem twoPow_representable (e : Nat) : 2 ^ 52 * 2 ^ (1022 + e) = 2 ^ e <<< 1074 := twoPow_shiftLeft 52 1022 e

/-- The bits of `2 ^ e` stand for `2 ^ e`, in units of `2 ^ -1074`. -/
theorem magnitudeOfBits_twoPow (e : Nat) : magnitudeOfBits ((1023 + e) * 2 ^ 52) = 2 ^ (1074 + e) := by
  have h := magnitudeOfBits_add (q := 2 ^ 52) (s := 1022 + e) (by norm_num) (.inr le_rfl)
  rw [← pow_add] at h
  convert h using 2 <;> ring

/-- A value from `2 ^ e` up to infinity. -/
structure AtLeastTwoPow (e : Nat) (x : Binary64) : Prop where
  low : (1023 + e) * 2 ^ 52 ≤ x.toNat
  high : x.toNat ≤ 2047 * 2 ^ 52

/-- From `2 ^ 0` on is from 1.0 on in the model's order. -/
theorem AtLeastTwoPow.one_le {x : Binary64} (hx : AtLeastTwoPow 0 x) : f64Le f64One x = true := by
  have hone : f64One.toNat = 1023 * 2 ^ 52 := by decide
  have hinf : f64One.toNat ≤ 2047 * 2 ^ 52 := by decide
  have hkey : f64Key f64One ≤ f64Key x := by
    simp only [f64Key, msb_of_le_inf hx.high, msb_of_le_inf hinf, Bool.false_eq_true, if_false, hone]
    exact_mod_cast hx.low
  simp [f64Le, f64IsNaN_of_le_inf hx.high, f64IsNaN_of_le_inf hinf, hkey]

/-- The magnitude of a finite value from `2 ^ e` on. -/
theorem AtLeastTwoPow.twoPow_le_magnitude {e : Nat} {x : Binary64} (hx : AtLeastTwoPow e x) (hfin : x.toNat ≠ 2047 * 2 ^ 52) :
    2 ^ (1074 + e) ≤ f64Magnitude x := by
  have hhigh := hx.high
  rw [← magnitudeOfBits_twoPow, f64Magnitude_eq x (by omega)]
  exact magnitude_le_of_bits_le (by omega) hx.low

/-! ### Division -/

/-- The quotient of a value that is not negative by a finite one above zero: infinity stays, the rest is rounded once. -/
theorem fdiv_toNat {x y : Binary64} (hx : x.toNat ≤ 2047 * 2 ^ 52) (hy0 : 0 < y.toNat) (hy : y.toNat < 2047 * 2 ^ 52) :
    (fdiv x y).toNat = if x.toNat = 2047 * 2 ^ 52 then 2047 * 2 ^ 52
      else roundMagnitude (f64Magnitude x <<< 1074) (f64Magnitude y) := by
  have hyinf : ¬f64IsInf y = true := by
    rw [f64IsInf_iff (msb_of_le_inf hy.le)]
    omega
  have hymag : f64Magnitude y ≠ 0 := (f64Magnitude_pos hy0 hy).ne'
  rw [fdiv, if_neg (by simp [f64IsNaN_of_le_inf hx, f64IsNaN_of_le_inf hy.le]), msb_of_le_inf hx, msb_of_le_inf hy.le]
  by_cases hinf : x.toNat = 2047 * 2 ^ 52
  · rw [if_pos ((f64IsInf_iff (msb_of_le_inf hx)).2 hinf), if_neg hyinf, if_pos hinf]
    exact f64Pack_false_toNat le_rfl
  · rw [if_neg (mt (f64IsInf_iff (msb_of_le_inf hx)).1 hinf), if_neg hyinf, if_neg hymag, if_neg hinf]
    exact f64Pack_false_toNat (roundMagnitude_le_inf _ _)

/-- A quotient is at least `2 ^ e` when the exact one is: rounding does not pass a representable value. An infinite
dividend needs no bound. -/
theorem fdiv_atLeastTwoPow {e : Nat} {x y : Binary64} (he : e ≤ 1023) (hx : x.toNat ≤ 2047 * 2 ^ 52) (hy0 : 0 < y.toNat)
    (hy : y.toNat < 2047 * 2 ^ 52) (h : x.toNat ≠ 2047 * 2 ^ 52 → 2 ^ e * f64Magnitude y ≤ f64Magnitude x) :
    AtLeastTwoPow e (fdiv x y) := by
  constructor <;> rw [fdiv_toNat hx hy0 hy] <;> split
  case low.isTrue => omega
  case low.isFalse hfin =>
    have hle : 2 ^ 52 * 2 ^ (1022 + e) * f64Magnitude y ≤ f64Magnitude x <<< 1074 := by
      rw [twoPow_representable, Nat.shiftLeft_eq, Nat.shiftLeft_eq, Nat.mul_right_comm]
      exact Nat.mul_le_mul_right _ (h hfin)
    have := le_roundMagnitude (f64Magnitude_pos hy0 hy) (by norm_num) (.inr le_rfl) (by omega) hle
    omega
  case high.isTrue => exact le_rfl
  case high.isFalse => exact roundMagnitude_le_inf _ _

/-- A value from `2 ^ (e + d)` on, divided by one up to `2 ^ d`, is from `2 ^ e` on. -/
theorem AtLeastTwoPow.fdiv_of_le {d e : Nat} {x y : Binary64} (hx : AtLeastTwoPow (e + d) x) (hed : e + d ≤ 1023)
    (hy0 : 0 < y.toNat) (hy : y.toNat ≤ (1023 + d) * 2 ^ 52) : AtLeastTwoPow e (fdiv x y) := by
  refine fdiv_atLeastTwoPow (by omega) hx.high hy0 (by omega) fun hfin => ?_
  have hmag : f64Magnitude y ≤ 2 ^ (1074 + d) := by
    rw [← magnitudeOfBits_twoPow, f64Magnitude_eq y (by omega)]
    exact magnitude_le_of_bits_le (by omega) hy
  calc 2 ^ e * f64Magnitude y ≤ 2 ^ e * 2 ^ (1074 + d) := Nat.mul_le_mul_left _ hmag
    _ = 2 ^ (1074 + (e + d)) := by rw [← pow_add, Nat.add_left_comm]
    _ ≤ f64Magnitude x := hx.twoPow_le_magnitude hfin

/-- `f64(n)` of a natural from 1 to `2 ^ d` is above zero and at most `2 ^ d`. -/
theorem f64_toNat_bounds {n d : Nat} (h1 : 1 ≤ n) (hn : n ≤ 2 ^ d) :
    0 < (f64 n).toNat ∧ (f64 n).toNat ≤ (1023 + d) * 2 ^ 52 := by
  have hbits : (f64 n).toNat = roundMagnitude (n <<< 1074) 1 := f64Pack_false_toNat (roundMagnitude_le_inf _ _)
  rw [hbits]
  constructor
  · refine le_roundMagnitude (m := 1) (k := 0) one_pos (by norm_num) (.inl rfl) (by norm_num) ?_
    exact (show 1 * 2 ^ 0 * 1 ≤ n from h1).trans Nat.le_shiftLeft
  · have hle : n <<< 1074 ≤ 2 ^ 52 * 2 ^ (1022 + d) * 1 := by
      rw [twoPow_representable, Nat.mul_one, Nat.shiftLeft_eq, Nat.shiftLeft_eq]
      exact Nat.mul_le_mul_right _ hn
    have := roundMagnitude_le one_pos (by norm_num) (.inr le_rfl) hle
    omega

/-! ### The period -/

/-- Every rate is an entry of one of the three tables. -/
theorem rate_mem_tables (p : Params) (b : Block) (x : OscId) :
    rate p b x ∈ p.rateLegacy.toList ++ p.rateA.toList ++ p.rateB.toList := by
  simp only [List.mem_append, Vector.mem_toList_iff]
  unfold rate
  split
  · exact .inl (.inl (Vector.getElem_mem _))
  · cases x with
    | a => exact .inl (.inr (Vector.getElem_mem _))
    | b => exact .inr (Vector.getElem_mem _)

/-- R12's first constraint, for the rate in use: `CYCLE_FREQ / rate(X)` is at least 8.0. -/
theorem cycleFreq_div_rate (p : Params) (b : Block) (x : OscId) (hp : MeetsR12 p) :
    AtLeastTwoPow 3 (fdiv p.cycleFreq (rate p b x)) := by
  obtain ⟨hrates, -⟩ := hp
  obtain ⟨hfin, hpos, hfits⟩ := hrates _ (rate_mem_tables p b x)
  obtain ⟨hr0, hr, hunits⟩ := toNat_of_finite_pos hfin hpos
  rcases hfits with ⟨hinf, hmsb⟩ | ⟨hffin, hle⟩
  · rw [f64IsInf_iff hmsb] at hinf
    exact fdiv_atLeastTwoPow (by norm_num) hinf.le hr0 hr fun hne => absurd hinf hne
  · obtain ⟨-, hf, hfunits⟩ := toNat_of_finite_pos hffin (by omega)
    exact fdiv_atLeastTwoPow (by norm_num) hf.le hr0 hr fun _ => by omega

/-- Settles O33: the quotient by the rate is at least 8, by 1 to 4 tracks at least 2, and by two at least 1. -/
theorem periodIsAtLeastOneCycle : Obligations.PeriodIsAtLeastOneCycle := by
  intro p b x hp hlo hhi
  obtain ⟨ht0, ht⟩ := f64_toNat_bounds (d := 2) hlo hhi
  have hrate : AtLeastTwoPow (1 + 2) (fdiv p.cycleFreq (rate p b x)) := cycleFreq_div_rate p b x hp
  have htracks : AtLeastTwoPow (0 + 1) (fdiv (fdiv p.cycleFreq (rate p b x)) (f64 b.playTracks)) :=
    hrate.fdiv_of_le (by norm_num) ht0 ht
  exact (htracks.fdiv_of_le (by norm_num) (by decide) (by decide)).one_le

end Sys2Proof.Machine

/-! PROOFS. The claims of 10_state.md: what a step runs (R101), the invariant right after reset (R129), a read after a
write (R103), and the auto-stop as the only write to the register file besides bus writes (R104). -/

namespace Sys2Proof.Machine

/-! ### What leaves the block alone -/

@[simp] theorem memRead_block (a : Addr) (s : State) : (memRead a s).block = s.block := by
  unfold memRead
  split <;> rfl

@[simp] theorem readPlaySample_block (a : Addr) (s : State) : (readPlaySample a s).block = s.block := by
  unfold readPlaySample readSampleWord
  split <;> simp

@[simp] theorem dspReadTx_block (s : State) : (dspReadTx s).block = s.block := by
  unfold dspReadTx
  split <;> rfl

@[simp] theorem pulseIrq_block (enabled : Bool) (path : IrqPath) (s : State) :
    (pulseIrq enabled path s).block = s.block := by
  unfold pulseIrq
  split <;> rfl

theorem tickFrame_readPlaySample (a : Addr) (s : State) : TickFrame s (readPlaySample a s) :=
  TickFrame.ite _ (tickFrame_readSampleWord a s) (tickFrame_memRead a s)

@[simp] theorem rowRead_block (row : Offset) (s : State) : (rowRead row s).block = s.block := by
  unfold rowRead
  split <;> rfl

@[simp] theorem regRead_block (o : Offset) (s : State) : (regRead o s).block = s.block := rowRead_block _ s

@[simp] theorem regReadWord_block (o : Offset) (s : State) : (regReadWord o s).block = s.block := by
  simp [regReadWord]

@[simp] theorem regReadLong_block (o : Offset) (s : State) : (regReadLong o s).block = s.block := by
  simp [regReadLong]

/-! ### What leaves the register file alone -/

@[simp] theorem latchStart_raw (b : Block) : (latchStart b).raw = b.raw := by unfold latchStart; split <;> rfl

@[simp] theorem latchEnd_raw (b : Block) : (latchEnd b).raw = b.raw := by unfold latchEnd; split <;> rfl

@[simp] theorem mapDma_raw (ch : Chan) (f : DmaChannel → DmaChannel) (b : Block) : (mapDma ch f b).raw = b.raw := by
  cases ch <;> rfl

@[simp] theorem loadFrame_raw (ch : Chan) (s : State) : (loadFrame ch s).block.raw = s.block.raw := by
  have load : (updBlock (loadBounds ch) s).block.raw = s.block.raw := mapDma_raw ch _ s.block
  unfold loadFrame
  split <;> exact load

/-- Starting or stopping a channel by its run bit stores no register (43 R732, R733). -/
@[simp] theorem runEdge_raw (ch : Chan) (run : Bool) (s : State) : (runEdge ch run s).block.raw = s.block.raw := by
  unfold runEdge
  split
  · simp [startChannel]
  · split <;> simp [stopChannel]

/-! ### A step (R101) -/

/-- Settles O6: by the two branches of `step`. -/
theorem stepRunsTheDecodedOperation : Obligations.StepRunsTheDecodedOperation := by
  constructor
  · intro s op rest i hstream hdecode
    have hop : decodeOperation op s = .ok i := hdecode
    simp only [step, hstream, hop, arrive]
  · intro s hempty
    simp only [step, hempty, idle]

/-! ### The reset state (R129) -/

/-- The positions of the rings need `1 ≤ DAC_CAP` and `1 ≤ ADC_CAP`; the rest are decodes of registers that are 0. -/
theorem goodImage_resetBlock {p : Params} (hp : ParamsOk p) (epoch : Nat) : GoodImage p (resetBlock p epoch) := by
  obtain ⟨⟨-, -, -, hdac, hadc⟩, -⟩ := hp
  have bit (i : Nat) : false = (0#8).getLsbD i := BitVec.getLsbD_zero.symm
  have field (i w : Nat) : 0#w = (0#8).extractLsb' i w := BitVec.extractLsb'_zero.symm
  have tracks (i : Nat) : 1 = ((0#8).extractLsb' i 2).toNat + 1 := by rw [← field]; rfl
  constructor
  case dacSize | adcSize => exact ⟨List.length_replicate, List.length_replicate⟩
  case dacPositions => exact ⟨hdac, hdac⟩
  case adcPositions => exact ⟨hadc, hadc⟩
  case playRun | recRun | selected => exact bit _
  case playInterrupts | recInterrupts | loops => exact ⟨bit _, bit _⟩
  case format => exact ⟨bit _, congrArg not (bit _)⟩
  case tracks => exact ⟨tracks _, tracks _⟩
  case monitored => exact field _ 2
  case rateIndices => exact ⟨field _ 2, field _ 4⟩
  case playCounter | recCounter => exact nofun
  case dacMuted => exact muted_eq_mutedByTable 0 0
  case cptA | cptB => exact cyclesPerTick_eq_tableRate _ _ _
  case playLength | recLength => exact (BitVec.sub_self 0#24).symm
  case playGate | recGate | recGateOfTx => rfl
  case slots => exact ⟨Nat.zero_lt_succ 7, Nat.zero_lt_succ 7, Nat.zero_lt_succ 7, Nat.zero_lt_succ 7⟩
  case startsEven | stopsEven | clockCodes | dspTxBus | dspRxBus | counted => exact ⟨rfl, rfl⟩
  case playEven | recEven | toCodec | toDsp | toDma | recUnused => exact ⟨rfl, rfl, rfl⟩
  case rxUnused => exact ⟨rfl, rfl, rfl, rfl⟩

/-- Settles O12: the memory of the reset state is empty, and its block is a good image. -/
theorem invariantAtReset : Obligations.InvariantAtReset := by
  have reset (p : Params) (hp : ParamsOk p) : Inv (State.resetWith p) :=
    ⟨rfl, fun _ => (imageOk_iff _ _).2 (goodImage_resetBlock hp 1)⟩
  exact ⟨reset, reset exampleParams ((paramsValid_iff_paramsOk _).1 (by decide +kernel))⟩

/-! ### A read after a write (R103) -/

/-- The rows whose byte reads return the stored byte. -/
def storedRows : List Nat :=
  [0x00, 0x01, 0x03, 0x05, 0x07, 0x0F, 0x11, 0x13, 0x20, 0x21, 0x30, 0x31, 0x32, 0x33, 0x34, 0x35, 0x36, 0x37,
    0x38, 0x39, 0x3A, 0x3B]

/-- A write of a stored row leaves there the byte written: its handler changes no register. -/
theorem rowByte_writeRow_same {row : Offset} {d : Byte} {s t : State} (hrow : row.toNat ∈ storedRows)
    (h : writeRow row d s = .ok t) : rowByte row t = d := by
  unfold writeRow at h
  split at h <;> rename_i hn
  -- the codec status and the unassigned bytes, then the frame-counter bytes: no stored rows
  case h_26 => simp_all [storedRows]
  case h_6 | h_7 | h_8 => exact absurd (hn ▸ hrow) (by decide)
  all_goals
    obtain rfl := Except.ok.inj h
    simp only [rowByte, hn]
  case h_2 => simp [storeDmaControl, decodeDmaControl]
  case h_3 | h_4 | h_5 => simp [storeStartHi, storeStartMid, storeStartLo]
  case h_9 | h_10 | h_11 => simp [storeEndHi, storeEndMid, storeEndLo]
  all_goals rfl

/-- A read of a stored row draws nothing. -/
theorem rowRead_of_stored {row : Offset} (hrow : row.toNat ∈ storedRows) (s : State) : rowRead row s = s := by
  have hassigned : isAssigned row = true := by
    revert row
    unfold storedRows
    decide
  exact if_pos hassigned

/-- Settles O32: the write keeps the machine ready, and its handler changes no register. -/
theorem readAfterWrite : Obligations.ReadAfterWrite := by
  intro s t o d ho h
  rw [exec_byteWriteForm] at h
  obtain ⟨hparams, hreset, hwrite⟩ := whenReady_next h
  rw [finish_next] at hwrite
  obtain ⟨hp, hr, -⟩ := writeRow_frame hwrite
  rw [exec_byteReadForm, whenReady_of_ready (hp ▸ hparams) (hr.trans hreset), rowByte_writeRow_same ho hwrite,
    rowRead_of_stored ho, giveResult]

/-! ### Auto-stops in a fire (R104) -/

/-- The bits of `raw[0x01]` that stay: all but the run bit of a channel that stops. -/
def stopMask (bit : Nat) (stops : Bool) : Byte := if stops then ~~~(1#8 <<< bit) else 0b11111111#8

theorem and_stopMask_false (bit : Nat) (v : Byte) : v &&& stopMask bit false = v := BitVec.and_allOnes

theorem stopMask_or (bit : Nat) (p q : Bool) : stopMask bit (p || q) = stopMask bit p &&& stopMask bit q := by
  cases p
  · exact (BitVec.allOnes_and).symm
  · cases q
    · exact (and_stopMask_false bit _).symm
    · exact (BitVec.and_self).symm

/-- The register file after auto-stops of PLAY (`p`) and REC (`r`). -/
def withStops (l : Layout) (p r : Bool) (raw : RawRegs) : RawRegs :=
  { raw with dmaControl := raw.dmaControl &&& stopMask l.playRun p &&& stopMask l.recRun r }

theorem withStops_none (l : Layout) (raw : RawRegs) : withStops l false false raw = raw := by
  simp only [withStops, and_stopMask_false]

theorem withStops_withStops (l : Layout) (p q r u : Bool) (raw : RawRegs) :
    withStops l q u (withStops l p r raw) = withStops l (p || q) (r || u) raw := by
  simp only [withStops, stopMask_or, RawRegs.mk.injEq, true_and, and_true]
  ac_rfl

/-- A channel record over a stretch of a fire: the loop flag stays, nothing starts it, and if an auto-stop of it was among
what happened (`stops`), it ran with loop off and has stopped. -/
structure ChannelStops (stops : Bool) (c d : DmaChannel) : Prop where
  loopMode : d.loopMode = c.loopMode
  running : d.isRunning = true → c.isRunning = true
  stopped : stops = true → c.isRunning = true ∧ c.loopMode = false ∧ d.isRunning = false

theorem ChannelStops.of_eq {c d : DmaChannel} (hloop : d.loopMode = c.loopMode) (hrun : d.isRunning = c.isRunning) :
    ChannelStops false c d := ⟨hloop, fun h => hrun ▸ h, nofun⟩

theorem ChannelStops.trans {p q : Bool} {c d e : DmaChannel} (h : ChannelStops p c d) (k : ChannelStops q d e) :
    ChannelStops (p || q) c e := by
  refine ⟨k.loopMode.trans h.loopMode, fun he => h.running (k.running he), fun hpq => ?_⟩
  rcases Bool.or_eq_true_iff.1 hpq with hp | hq
  · obtain ⟨hrun, hloop, hstop⟩ := h.stopped hp
    exact ⟨hrun, hloop, by rw [Bool.eq_false_iff] at hstop ⊢; exact fun he => hstop (k.running he)⟩
  · obtain ⟨hrun, hloop, hstop⟩ := k.stopped hq
    exact ⟨h.running hrun, h.loopMode ▸ hloop, hstop⟩

/-- From block `b` to block `c` the register file changes by the auto-stops of PLAY (`p`) and REC (`r`) alone. -/
structure AutoStops (l : Layout) (p r : Bool) (b c : Block) : Prop where
  raw : c.raw = withStops l p r b.raw
  play : ChannelStops p b.playDma c.playDma
  record : ChannelStops r b.recDma c.recDma

theorem AutoStops.trans {l : Layout} {p q r u : Bool} {b c d : Block} (h : AutoStops l p r b c) (k : AutoStops l q u c d) :
    AutoStops l (p || q) (r || u) b d := by
  refine ⟨?_, h.play.trans k.play, h.record.trans k.record⟩
  rw [k.raw, h.raw, withStops_withStops]

/-- From `s` to `t` the register file changes by auto-stops alone. -/
def StopFrame (s t : State) : Prop := t.params = s.params ∧ ∃ p r, AutoStops s.params.layout p r s.block t.block

theorem StopFrame.trans {s t u : State} (h : StopFrame s t) (k : StopFrame t u) : StopFrame s u := by
  obtain ⟨hp, _, _, hs⟩ := h
  obtain ⟨kp, _, _, ks⟩ := k
  exact ⟨kp.trans hp, _, _, hs.trans (hp ▸ ks)⟩

theorem StopFrame.ite (c : Prop) [Decidable c] {s t u : State} (h : StopFrame s t) (k : StopFrame s u) :
    StopFrame s (if c then t else u) := by split <;> assumption

/-- The register file and the flags an auto-stop depends on or clears. -/
def runState (b : Block) : RawRegs × (Bool × Bool) × (Bool × Bool) :=
  (b.raw, (b.playDma.loopMode, b.playDma.isRunning), (b.recDma.loopMode, b.recDma.isRunning))

theorem StopFrame.of_kept {s t : State} (hp : t.params = s.params) (hrun : runState t.block = runState s.block) :
    StopFrame s t := by
  simp only [runState, Prod.mk.injEq] at hrun
  obtain ⟨hraw, ⟨hploop, hprun⟩, hrloop, hrrun⟩ := hrun
  exact ⟨hp, false, false, by rw [hraw, withStops_none], .of_eq hploop hprun, .of_eq hrloop hrrun⟩

theorem StopFrame.of_block {s t : State} (hp : t.params = s.params) (hb : t.block = s.block) : StopFrame s t :=
  .of_kept hp (congrArg runState hb)

theorem StopFrame.refl (s : State) : StopFrame s s := .of_block rfl rfl

theorem stopFrame_emit (e : Event) (s : State) : StopFrame s (emit e s) := .of_block rfl rfl

theorem stopFrame_clearHandshake (ch : Chan) (s : State) :
    StopFrame s (updDma ch (fun c => { c with handshakeFrame := false }) s) :=
  .of_kept rfl (by cases ch <;> rfl)

/-! ### End of frame and sinks -/

theorem stopFrame_loadFrame (ch : Chan) (s : State) : StopFrame s (loadFrame ch s) := by
  have load : StopFrame s (updBlock (loadBounds ch) s) := .of_kept rfl (by cases ch <;> rfl)
  exact .ite _ (load.trans (stopFrame_emit _ _)) load

/-- The one place where a fire writes the register file: the run bit of a channel that runs with loop off (43 R730). -/
theorem stopFrame_autoStop {ch : Chan} {s : State} (hrun : (dmaOf ch s.block).isRunning = true)
    (hloop : (dmaOf ch s.block).loopMode = false) : StopFrame s (autoStop ch s) := by
  have stops : ChannelStops true (dmaOf ch s.block) { dmaOf ch s.block with isRunning := false, frameCounter := 0 } :=
    ⟨rfl, nofun, fun _ => ⟨hrun, hloop, rfl⟩⟩
  cases ch
  · exact ⟨rfl, true, false, by simp only [withStops, and_stopMask_false]; rfl, stops, .of_eq rfl rfl⟩
  · exact ⟨rfl, false, true, by simp only [withStops, and_stopMask_false]; rfl, .of_eq rfl rfl, stops⟩

theorem stopFrame_endOfFrame {ch : Chan} {s : State} (hrun : (dmaOf ch s.block).isRunning = true) :
    StopFrame s (endOfFrame ch s) := by
  have pulse (enabled path) (u : State) : StopFrame u (pulseIrq enabled path u) :=
    .of_block (tickFrame_pulseIrq enabled path u).params (pulseIrq_block enabled path u)
  unfold endOfFrame
  dsimp only
  refine (pulse (dmaOf ch s.block).mfpInterrupt15 .gpio s).trans ?_
  refine (pulse (dmaOf ch s.block).timerAInterrupt .timerA _).trans ?_
  split
  · exact stopFrame_loadFrame ch _
  · next hloop => exact stopFrame_autoStop (by simpa using hrun) (by simpa using hloop)

/-- Only a channel that runs moves on, so only a channel that runs reaches its end of frame. -/
theorem stopFrame_advanceChannel {ch : Chan} {s : State} (inc : Nat) (hrun : (dmaOf ch s.block).isRunning = true) :
    StopFrame s (advanceChannel ch inc s) := by
  have move : StopFrame s (updDma ch (fun c => { c with
      slot := (c.slot + 1) % (tracksOf ch s.block * 2), frameCounter := c.frameCounter + inc }) s) :=
    .of_kept rfl (by cases ch <;> rfl)
  exact .ite _ (move.trans (stopFrame_endOfFrame (by simpa using hrun))) move

theorem stopFrame_dmaRecordSink (v : Sample) (s : State) : StopFrame s (dmaRecordSink v s) := by
  unfold dmaRecordSink
  dsimp only
  split
  · exact .refl s
  · next hrun =>
    have write (w : State) (hp : w.params = s.params) (hb : w.block = s.block) :
        StopFrame s (advanceChannel .record (counterAdvance s.block.is16Bit s.block.isStereo s.block.recDma.slot) w) :=
      (StopFrame.of_block hp hb).trans (stopFrame_advanceChannel _ (by rw [hb]; simpa using hrun))
    split
    · exact write _ rfl rfl
    · exact write _ rfl rfl

theorem stopFrame_dacSink (v : Sample) (slot : Nat) (s : State) : StopFrame s (dacSink v slot s) := by
  have dac (f : Block → Block) (h : runState (f s.block) = runState s.block) : StopFrame s (updBlock f s) := .of_kept rfl h
  exact .ite _ (dac _ rfl) (.ite _ (dac _ rfl) (.refl s))

theorem stopFrame_fanOut (toDma toCodec toDsp : Bool) (v vdac : Sample) (slot : Nat) (frame : Bool) (s : State) :
    StopFrame s (fanOut toDma toCodec toDsp v vdac slot frame s) := by
  have rx (u : State) : StopFrame u (dspRxSink v frame u) :=
    .of_block (tickFrame_dspRxSink v frame u).params (dspRxSink_block v frame u)
  have toRecord := StopFrame.ite (toDma = true) (stopFrame_dmaRecordSink v s) (.refl s)
  have toDac := toRecord.trans (.ite (toCodec = true) (stopFrame_dacSink vdac slot _) (.refl _))
  exact toDac.trans (.ite (toDsp = true) (rx _) (.refl _))

@[simp] theorem fanOut_playDma (toDma toCodec toDsp : Bool) (v vdac : Sample) (slot : Nat) (frame : Bool) (s : State) :
    (fanOut toDma toCodec toDsp v vdac slot frame s).block.playDma = s.block.playDma := by
  obtain ⟨c, r, hblock⟩ := fanOut_block toDma toCodec toDsp v vdac slot frame s
  rw [hblock]

/-! ### The three ticks and the fires -/

theorem stopFrame_dmaPlayMove {s : State} (hrun : s.block.playDma.isRunning = true) : StopFrame s (dmaPlayMove s) := by
  have read (a : Addr) : StopFrame s (readPlaySample a s) :=
    .of_block (tickFrame_readPlaySample a s).params (readPlaySample_block a s)
  exact ((read _).trans (stopFrame_fanOut _ _ _ _ _ _ _ _)).trans (stopFrame_advanceChannel _ (by simpa using hrun))

theorem stopFrame_dmaPlayTick (s : State) : StopFrame s (dmaPlayTick s) := by
  unfold dmaPlayTick
  dsimp only
  split
  · exact .refl s
  · next hrun =>
    replace hrun : s.block.playDma.isRunning = true := by simpa using hrun
    have ungated := (stopFrame_clearHandshake .play s).trans (stopFrame_dmaPlayMove hrun)
    exact .ite _ (stopFrame_dmaPlayMove hrun) (.ite _ (.refl s) ungated)

theorem stopFrame_dspReadTx (s : State) : StopFrame s (dspReadTx s) :=
  .of_block (tickFrame_dspReadTx s).params (dspReadTx_block s)

theorem stopFrame_dspXmitHandshake (s : State) : StopFrame s (dspXmitHandshake s) :=
  .ite _ (.refl s)
    (((stopFrame_clearHandshake .record s).trans (stopFrame_dspReadTx _)).trans (stopFrame_dmaRecordSink _ _))

theorem stopFrame_dspXmitTick (s : State) : StopFrame s (dspXmitTick s) := by
  have count (u : State) : StopFrame u (updBlock advanceWordCount u) := .of_kept rfl rfl
  exact .ite _ (.refl s) (.ite _ (stopFrame_dspXmitHandshake s)
    (((((stopFrame_emit _ s).trans (stopFrame_emit _ _)).trans (stopFrame_dspReadTx _)).trans
      (stopFrame_fanOut _ _ _ _ _ _ _ _)).trans (count _)))

theorem stopFrame_adcTick (s : State) : StopFrame s (adcTick s) := by
  have read : StopFrame s (updBlock (advanceAdcRead s.params.adcCap) s) := by
    unfold advanceAdcRead
    dsimp only [updBlock]
    split <;> exact .of_kept rfl rfl
  have side (x : Side) (u : State) : StopFrame u (updBlock (fun b => { b with adc := { b.adc with side := x } }) u) :=
    .of_kept rfl rfl
  exact (read.trans (stopFrame_fanOut _ _ _ _ _ _ _ _)).trans (side _ _)

theorem stopFrame_fireASubflows (s : State) : StopFrame s (fireASubflows s) := by
  have xmit := stopFrame_dspXmitTick s
  refine .ite _ ((xmit.trans (stopFrame_dmaPlayTick _)).trans (stopFrame_adcTick _)) ?_
  have clocked := StopFrame.ite (s.block.dspXmitFreqSel = s.params.layout.clockA) xmit (.refl s)
  exact (clocked.trans (.ite _ (stopFrame_dmaPlayTick _) (.refl _))).trans (stopFrame_adcTick _)

theorem stopFrame_fireBSubflows (s : State) : StopFrame s (fireBSubflows s) := by
  refine .ite _ (.refl s) ?_
  have clocked := StopFrame.ite (s.block.dspXmitFreqSel = s.params.layout.clockB) (stopFrame_dspXmitTick s) (.refl s)
  exact clocked.trans (.ite _ (stopFrame_dmaPlayTick _) (.refl _))

/-- A schedule that is not refused records its delay and moves the oscillator's counters on (42 R610). -/
theorem scheduleNext_ok {x : OscId} {s t : State} (h : scheduleNext x s = .ok t) :
    t = emit (.scheduleRelative (oscDelay (oscOf x s.block)).toNat x s.block.epoch)
      (updBlock (setOsc x (oscNext (oscOf x s.block))) s) := by
  unfold scheduleNext at h
  dsimp only at h
  split at h
  · cases h
  · exact (Except.ok.inj h).symm

theorem stopFrame_scheduleNext {x : OscId} {s t : State} (h : scheduleNext x s = .ok t) : StopFrame s t := by
  rw [scheduleNext_ok h]
  cases x <;> exact .of_kept rfl rfl

theorem stopFrame_fire {x : OscId} {subflows : State → State} (hsub : ∀ u, StopFrame u (subflows u)) {e : Nat}
    {s t : State} (h : fire x subflows e s = .ok t) : StopFrame s t := by
  unfold fire at h
  dsimp only at h
  split at h
  · exact ((stopFrame_emit _ s).trans (hsub _)).trans (stopFrame_scheduleNext h)
  · exact Except.ok.inj h ▸ stopFrame_emit _ s

theorem stopFrame_of_isFire {i : Instr} {s t : State} (hi : isFire i = true) (h : exec i s = .next t) : StopFrame s t := by
  unfold isFire at hi
  split at hi
  · obtain ⟨-, -, hfire⟩ := whenReady_next h
    exact stopFrame_fire stopFrame_fireASubflows (finish_next.1 hfire)
  · obtain ⟨-, -, hfire⟩ := whenReady_next h
    exact stopFrame_fire stopFrame_fireBSubflows (finish_next.1 hfire)
  · cases hi

/-! ### The operations that are no fire -/

/-- A wide access that is not refused goes on with what it was given. -/
theorem wideAccess_next {o : Offset} {width : Nat} {s t : State} {k : Out} (h : wideAccess o width s k = .next t) :
    k = .next t := by
  obtain ⟨-, -, h⟩ := whenReady_next h
  split at h
  · cases h
  · split at h
    · cases h
    · exact h

theorem refuseMisaligned_ne_next (s t : State) : refuseMisaligned s ≠ .next t := by
  intro h
  obtain ⟨-, -, h⟩ := whenReady_next h
  cases h

/-- A microphone feed writes the ADC buffer alone. -/
theorem feedState_block {l : List StereoPair} {s t : State} (h : feedState l s = .ok t) :
    t.block = { s.block with adcBuf := t.block.adcBuf } := by
  unfold feedState at h
  split at h
  · cases h
  · rw [← Except.ok.inj h]; rfl

/-- A bus write is an operation of class 1 (30 R330). -/
theorem isBusWrite_of_encode {i : Instr} {size : BitVec 2} {a : Addr}
    (h : (encode 0 defaultLayout i).1 = busDescriptor 1 size a) : isBusWrite i = true := by
  have hclass : descClass (busDescriptor 1 size a) = 1#4 := descClass_bus 1 size a
  rw [isBusWrite, h, beq_iff_eq]
  exact hclass

theorem isBusWrite_byteWriteForm (o : Offset) (d : Byte) : isBusWrite (byteWriteForm o d) = true :=
  isBusWrite_of_encode (by rw [encode_byteWriteForm]; rfl)

/-- Of the operations only bus writes, resets, restores and fires reach the register file. -/
theorem exec_keeps_raw {i : Instr} {s t : State} (h : exec i s = .next t) (hwrite : isBusWrite i = false)
    (hreset : isReset i = false) (hrestore : isRestore i = false) (hfire : isFire i = false) :
    t.block.raw = s.block.raw := by
  induction i using instr_byForms with
  | byteWrite o d => exact absurd (isBusWrite_byteWriteForm o d) (Bool.eq_false_iff.1 hwrite)
  | wwEven o d | wwOdd o d | wlEven o d | wlOdd o d =>
    exact absurd (isBusWrite_of_encode rfl) (Bool.eq_false_iff.1 hwrite)
  | resetCold | resetWarm => cases hreset
  | restore b => cases hrestore
  | fireA e | fireB e => cases hfire
  | byteRead o =>
    rw [exec_byteReadForm] at h
    obtain ⟨-, -, h⟩ := whenReady_next h
    simp [← Host.Outcome.next.inj h]
  | rwEven o | rlEven o => simp [← Host.Outcome.next.inj (wideAccess_next h)]
  | rwOdd o | rlOdd o => exact absurd h (refuseMisaligned_ne_next s t)
  | mic l =>
    obtain ⟨-, -, h⟩ := whenReady_next h
    rw [feedState_block (finish_next.1 h)]
  | fsoPlay | fsoRec | drain mix | capture =>
    obtain ⟨-, -, h⟩ := whenReady_next h
    rw [← Host.Outcome.next.inj h]
    rfl

/-- Settles O55: a fire changes the register file by auto-stops alone, and no other operation in question changes it. -/
theorem registerFileChangesByAutoStopOnly : Obligations.RegisterFileChangesByAutoStopOnly := by
  intro s t i h hwrite hreset hrestore
  cases hfire : isFire i with
  | true =>
    obtain ⟨-, p, r, hraw, hplay, hrec⟩ := stopFrame_of_isFire hfire h
    exact ⟨p, r, hraw, fun hp => ⟨rfl, hplay.stopped hp⟩, fun hr => ⟨rfl, hrec.stopped hr⟩⟩
  | false =>
    refine ⟨false, false, ?_, nofun, nofun⟩
    rw [exec_keeps_raw h hwrite hreset hrestore hfire]
    exact (withStops_none _ _).symm

end Sys2Proof.Machine

/-! PROOFS. The claims of 20_memory.md: each position and array of the two rings has one writer (R218). -/

namespace Sys2Proof.Machine

/-! ### What leaves both rings and the pending count alone -/

/-- The two rings and the pending count. -/
def ringState (b : Block) : Ring × Binary64 × Ring := (b.dac, b.dacPending, b.adcBuf)

@[simp] theorem latchStart_ringState (b : Block) : ringState (latchStart b) = ringState b := by
  unfold latchStart
  split <;> rfl

@[simp] theorem latchEnd_ringState (b : Block) : ringState (latchEnd b) = ringState b := by
  unfold latchEnd
  split <;> rfl

@[simp] theorem mapDma_ringState (ch : Chan) (f : DmaChannel → DmaChannel) (b : Block) :
    ringState (mapDma ch f b) = ringState b := by cases ch <;> rfl

@[simp] theorem setOsc_ringState (x : OscId) (o : Osc) (b : Block) : ringState (setOsc x o b) = ringState b := by
  cases x <;> rfl

@[simp] theorem loadFrame_ringState (ch : Chan) (s : State) :
    ringState (loadFrame ch s).block = ringState s.block := by
  have load : ringState (updBlock (loadBounds ch) s).block = ringState s.block := mapDma_ringState ch _ s.block
  unfold loadFrame
  split <;> exact load

@[simp] theorem runEdge_ringState (ch : Chan) (run : Bool) (s : State) :
    ringState (runEdge ch run s).block = ringState s.block := by
  unfold runEdge
  split
  · simp [startChannel]
  · split <;> simp [stopChannel]

/-- The DMA-control byte acts on the rings by its two run edges at most. -/
theorem storeDmaControl_ringState (d : Byte) (s : State) :
    ringState (storeDmaControl d s).block = ringState s.block :=
  (runEdge_ringState .record _ _).trans (runEdge_ringState .play _ _)

/-- No register's handler reaches a ring. -/
theorem writeRow_ringState {row : Offset} {d : Byte} {s t : State} (h : writeRow row d s = .ok t) :
    ringState t.block = ringState s.block := by
  by_cases hlo : row = 0x0D#6
  · subst hlo
    rw [writeRow_countLo] at h
    split at h
    · exact Except.ok.inj h ▸ rfl
    · cases h
  · unfold writeRow at h
    split at h
    case h_8 hn => exact absurd (BitVec.eq_of_toNat_eq hn) hlo
    all_goals obtain rfl := Except.ok.inj h
    case h_2 => exact storeDmaControl_ringState d s
    case h_3 | h_4 | h_5 => exact latchStart_ringState _
    case h_9 | h_10 | h_11 => exact latchEnd_ringState _
    all_goals rfl

theorem writeBytes_ringState {o : Offset} {l : List Byte} {s t : State} (h : writeBytes o l s = .ok t) :
    ringState t.block = ringState s.block := by
  induction l generalizing o s with
  | nil => exact Except.ok.inj h ▸ rfl
  | cons b rest ih =>
    rw [writeBytes] at h
    cases hb : write8 o b s with
    | error e => rw [hb] at h; cases h
    | ok u =>
      rw [hb] at h
      exact (ih h).trans (writeRow_ringState hb)

/-- Resets and restores apart, only fires, drains and feeds reach a ring or the pending count. -/
theorem exec_keeps_ringState {i : Instr} {s t : State} (h : exec i s = .next t) (hreset : isReset i = false)
    (hrestore : isRestore i = false) (hfire : isFire i = false) (hdrain : isDrain i = false) (hfeed : isFeed i = false) :
    ringState t.block = ringState s.block := by
  induction i using instr_byForms with
  | resetCold | resetWarm => cases hreset
  | restore b => cases hrestore
  | fireA e | fireB e => cases hfire
  | drain mix => cases hdrain
  | mic l => cases hfeed
  | byteWrite o d =>
    rw [exec_byteWriteForm] at h
    obtain ⟨-, -, h⟩ := whenReady_next h
    exact writeRow_ringState (finish_next.1 h)
  | wwEven o d =>
    have h := finish_next.1 (wideAccess_next h)
    exact writeBytes_ringState (writeWord_eq o d s ▸ h)
  | wlEven o d =>
    have h := finish_next.1 (wideAccess_next h)
    exact writeBytes_ringState (writeLong_eq o d s ▸ h)
  | byteRead o =>
    rw [exec_byteReadForm] at h
    obtain ⟨-, -, h⟩ := whenReady_next h
    simp [← Host.Outcome.next.inj h]
  | rwEven o | rlEven o => simp [← Host.Outcome.next.inj (wideAccess_next h)]
  | wwOdd o d | wlOdd o d | rwOdd o | rlOdd o => exact absurd h (refuseMisaligned_ne_next s t)
  | fsoPlay | fsoRec | capture =>
    obtain ⟨-, -, h⟩ := whenReady_next h
    rw [← Host.Outcome.next.inj h]
    rfl

/-! ### The three agents that reach a ring -/

/-- What the host drain and the microphone feed own: the DAC's read position, and the ADC's samples and write position. -/
def hostOwned (b : Block) : Nat × List Sample × List Sample × Nat :=
  (b.dac.rd, b.adcBuf.left, b.adcBuf.right, b.adcBuf.wr)

theorem hostOwned_of_ringState {b c : Block} (h : ringState b = ringState c) : hostOwned b = hostOwned c :=
  congrArg (fun r : Ring × Binary64 × Ring => (r.1.rd, r.2.2.left, r.2.2.right, r.2.2.wr)) h

/-- The sub-flows of a fire leave it alone: it lies in the part of the block that none of them changes. -/
theorem hostOwned_of_tickFrame {s t : State} (h : TickFrame s t) : hostOwned t.block = hostOwned s.block := by
  have inFixedPart (l : Layout) (b : Block) : hostOwned (fixedPart l b) = hostOwned b := rfl
  rw [← inFixedPart s.params.layout, h.fixed, inFixedPart]

theorem fire_hostOwned {x : OscId} {subflows : State → State} (hsub : ∀ u, TickFrame u (subflows u)) {e : Nat}
    {s t : State} (h : fire x subflows e s = .ok t) : hostOwned t.block = hostOwned s.block := by
  unfold fire at h
  dsimp only at h
  split at h
  · rw [scheduleNext_ok h]
    exact (hostOwned_of_ringState (setOsc_ringState x _ _)).trans
      (hostOwned_of_tickFrame ((tickFrame_emit _ s).trans (hsub _)))
  · exact Except.ok.inj h ▸ rfl

theorem exec_fire_hostOwned {i : Instr} {s t : State} (hi : isFire i = true) (h : exec i s = .next t) :
    hostOwned t.block = hostOwned s.block := by
  unfold isFire at hi
  split at hi
  · obtain ⟨-, -, hfire⟩ := whenReady_next h
    exact fire_hostOwned tickFrame_fireASubflows (finish_next.1 hfire)
  · obtain ⟨-, -, hfire⟩ := whenReady_next h
    exact fire_hostOwned tickFrame_fireBSubflows (finish_next.1 hfire)
  · cases hi

/-- A drain moves the DAC's read position and the pending count. -/
theorem exec_drain_block {mix : List StereoPair} {s t : State} (h : exec (.drain mix) s = .next t) :
    ∃ rd pending, t.block = { s.block with dac := { s.block.dac with rd := rd }, dacPending := pending } := by
  obtain ⟨-, -, h⟩ := whenReady_next h
  rw [← Host.Outcome.next.inj h]
  exact ⟨_, _, rfl⟩

theorem feedLoop_rd (rounds cap : Nat) (ratio : Binary64) (samples : List StereoPair) (r : Ring)
    (pos : Binary64) : (feedLoop rounds cap ratio samples r pos).rd = r.rd := by
  induction rounds generalizing r pos with
  | zero => rfl
  | succ n ih =>
    unfold feedLoop
    split
    · rfl
    · exact ih _ _

/-- A feed writes the ADC's ring alone, and of that not the read position. -/
theorem exec_mic_block {l : List StereoPair} {s t : State} (h : exec (.mic l) s = .next t) :
    ∃ ring, ring.rd = s.block.adcBuf.rd ∧ t.block = { s.block with adcBuf := ring } := by
  obtain ⟨-, -, h⟩ := whenReady_next h
  rw [finish_next] at h
  unfold feedState at h
  split at h
  · cases h
  · rw [← Except.ok.inj h]
    exact ⟨_, feedLoop_rd _ _ _ _ _ _, rfl⟩

theorem isDrain_iff {i : Instr} : isDrain i = true ↔ ∃ mix, i = .drain mix := by
  unfold isDrain
  split <;> simp_all

theorem isFeed_iff {i : Instr} : isFeed i = true ↔ ∃ l, i = .mic l := by
  unfold isFeed
  split <;> simp_all

/-- Settles O54: an operation is a fire, a drain or a feed, each of which keeps to what its agent owns, or reaches no
ring. -/
theorem ringBuffersHaveOneWriter : Obligations.RingBuffersHaveOneWriter := by
  intro s t i h hreset hrestore
  cases hfire : isFire i with
  | true =>
    have howned := exec_fire_hostOwned hfire h
    simp only [hostOwned, Prod.mk.injEq] at howned
    obtain ⟨hrd, hadc⟩ := howned
    exact ⟨nofun, fun _ => hrd, fun _ => hadc, nofun⟩
  | false =>
    cases hdrain : isDrain i with
    | true =>
      obtain ⟨mix, rfl⟩ := isDrain_iff.1 hdrain
      obtain ⟨rd, pending, hb⟩ := exec_drain_block h
      rw [hb]
      exact ⟨fun _ => ⟨rfl, rfl, rfl, rfl⟩, nofun, fun _ => ⟨rfl, rfl, rfl⟩, fun _ => nofun⟩
    | false =>
      cases hfeed : isFeed i with
      | true =>
        obtain ⟨l, rfl⟩ := isFeed_iff.1 hfeed
        obtain ⟨ring, hrd, hb⟩ := exec_mic_block h
        rw [hb]
        exact ⟨fun _ => ⟨rfl, rfl, rfl, hrd⟩, fun _ => rfl, nofun, fun _ _ => rfl⟩
      | false =>
        have hkept := exec_keeps_ringState h hreset hrestore hfire hdrain hfeed
        simp only [ringState, Prod.mk.injEq] at hkept
        obtain ⟨hdac, hpending, hadc⟩ := hkept
        rw [hdac, hpending, hadc]
        exact ⟨fun _ => ⟨rfl, rfl, rfl, rfl⟩, fun _ => rfl, fun _ => ⟨rfl, rfl, rfl⟩, fun _ _ => rfl⟩

end Sys2Proof.Machine

/-! PROOFS. The claims of 30_encoding.md on the decoder: it inverts the encoder (R330 to R335), it refuses exactly the
descriptors R334 lists, each for its reason, and the words written out from the encoding tables. -/

namespace Sys2Proof

open Machine

/-! ### The fields of an event descriptor -/

theorem descClass_event (code : BitVec 8) : descClass (eventDescriptor code) = 2 := by
  apply BitVec.eq_of_toNat_eq
  rw [descClass_toNat, eventDescriptor_toNat]
  have := code.isLt
  show _ = 2
  omega

theorem descEventZero_event (code : BitVec 8) : descEventZero (eventDescriptor code) = 0 := by
  apply BitVec.eq_of_toNat_eq
  rw [descEventZero_toNat, eventDescriptor_toNat]
  have := code.isLt
  show _ = 0
  omega

theorem descCode_event (code : BitVec 8) : descCode (eventDescriptor code) = code := by
  apply BitVec.eq_of_toNat_eq
  rw [descCode_toNat, eventDescriptor_toNat]
  have := code.isLt
  omega

/-- A descriptor of class 2 names an event. -/
theorem decode_event {base : Addr} {l : Layout} {w : BitVec 32} {operand : Operand} (h : descClass w = 2) :
    decode base l w operand = decodeEvent w operand := by
  rw [decode, h, if_neg (by decide), if_pos rfl]

/-! ### Addresses in the window -/

theorem fitsWindow_one {base : Addr} {o : Offset} {width : Nat} (hw : 1 ≤ width) (h : fitsWindow base o width = true) :
    fitsWindow base o 1 = true := by
  simp only [fitsWindow, Bool.and_eq_true, decide_eq_true_eq] at *
  omega

theorem wfEven_iff {base : Addr} {o : Offset} {width : Nat} :
    wfEven base o width = true ↔ fitsWindow base o width = true ∧ isOddAddr (busAddr base o) = false := by
  simp [wfEven]

theorem wfOdd_iff {base : Addr} {o : Offset} :
    wfOdd base o = true ↔ fitsWindow base o 1 = true ∧ isOddAddr (busAddr base o) = true := by
  simp [wfOdd]

/-- An address in the window is that of an offset. -/
theorem exists_offset_of_window {base a : Addr} (hlow : base.toNat ≤ a.toNat) (hhigh : a.toNat < base.toNat + 64) :
    ∃ o : Offset, a = busAddr base o ∧ fitsWindow base o 1 = true := by
  have ho : (BitVec.ofNat 6 (a.toNat - base.toNat)).toNat = a.toNat - base.toNat := by
    rw [BitVec.toNat_ofNat]
    omega
  have ha := a.isLt
  refine ⟨BitVec.ofNat 6 (a.toNat - base.toNat), BitVec.eq_of_toNat_eq ?_, ?_⟩
  · rw [busAddr, BitVec.toNat_add, BitVec.toNat_setWidth, ho]
    omega
  · simp only [fitsWindow, ho, Bool.and_eq_true, decide_eq_true_eq]
    omega

/-- Where the access fits, the bus address of an offset does not wrap. -/
theorem busAddr_toNat {base : Addr} {o : Offset} (h : fitsWindow base o 1 = true) :
    (busAddr base o).toNat = base.toNat + o.toNat := by
  simp only [fitsWindow, Bool.and_eq_true, decide_eq_true_eq] at h
  rw [busAddr, BitVec.toNat_add, BitVec.toNat_setWidth]
  omega

/-! ### Decoding an encoded operation (R330 to R335) -/

/-- Settles O1: a byte form is found at the offset the layout table gives its row, and a wide form is told from its odd
twin by the address. -/
theorem decodeOfEncode : Obligations.DecodeOfEncode := by
  intro base l i hl hwf
  induction i using instr_byForms with
  | byteWrite row d =>
    rw [wellFormed_byteWriteForm] at hwf
    rw [encode_byteWriteForm, encodeByteWrite, decode_bus base l 1 0 _ _ (.inr rfl) (by decide) hwf, if_neg (by decide),
      decodeWrite, if_pos rfl, rowAt_offsetOf hl.offsets]
  | byteRead row =>
    rw [wellFormed_byteReadForm] at hwf
    rw [encode_byteReadForm, encodeByteRead, decode_bus base l 0 0 _ _ (.inl rfl) (by decide) hwf, if_pos rfl,
      decodeRead, if_neg (by simp), if_pos rfl, rowAt_offsetOf hl.offsets]
  | wwEven o d | wlEven o d =>
    obtain ⟨hfit, heven⟩ := wfEven_iff.1 hwf
    simp [encode, decode_bus, decodeWrite, fitsWindow_one _ hfit, hfit, heven]
  | wwOdd o d | wlOdd o d =>
    obtain ⟨hfit, hodd⟩ := wfOdd_iff.1 hwf
    simp [encode, decode_bus, decodeWrite, hfit, hodd]
  | rwEven o | rlEven o =>
    obtain ⟨hfit, heven⟩ := wfEven_iff.1 hwf
    simp [encode, decode_bus, decodeRead, fitsWindow_one _ hfit, hfit, heven]
  | rwOdd o | rlOdd o =>
    obtain ⟨hfit, hodd⟩ := wfOdd_iff.1 hwf
    simp [encode, decode_bus, decodeRead, hfit, hodd]
  | _ => simp [encode, decode_event, decodeEvent, plainEvent, descClass_event, descEventZero_event, descCode_event]

/-! ### The list of R334 -/

/-- The first three cases of R334 by the fields the decoder reads. -/
theorem badBits_iff (w : BitVec 32) :
    BadBits w ↔ (descClass w ≠ 0 ∧ descClass w ≠ 1 ∧ descClass w ≠ 2) ∨
      (descClass w = 0 ∨ descClass w = 1) ∧ (descSize w = 3 ∨ descBusZero w ≠ 0) ∨
      descClass w = 2 ∧ (descEventZero w ≠ 0 ∨ (descCode w).toNat = 0 ∨ 0x0B ≤ (descCode w).toNat) := by
  change 3 ≤ (descClass w).toNat ∨ ((descClass w).toNat = 0 ∨ (descClass w).toNat = 1) ∧ (descSize w).toNat = 3 ∨
    ((descClass w).toNat = 0 ∨ (descClass w).toNat = 1) ∧ descBusZero w ≠ 0 ∨
    (descClass w).toNat = 2 ∧ descEventZero w ≠ 0 ∨
    (descClass w).toNat = 2 ∧ ((descCode w).toNat = 0 ∨ 0x0B ≤ (descCode w).toNat) ↔ _
  have h0 : descClass w = 0 ↔ (descClass w).toNat = 0 := BitVec.toNat_inj.symm
  have h1 : descClass w = 1 ↔ (descClass w).toNat = 1 := BitVec.toNat_inj.symm
  have h2 : descClass w = 2 ↔ (descClass w).toNat = 2 := BitVec.toNat_inj.symm
  have hsize : descSize w = 3 ↔ (descSize w).toNat = 3 := BitVec.toNat_inj.symm
  have hge : 3 ≤ (descClass w).toNat ↔
      (descClass w).toNat ≠ 0 ∧ (descClass w).toNat ≠ 1 ∧ (descClass w).toNat ≠ 2 := by omega
  rw [h0, h1, h2, hsize, hge]
  grind

/-- Where no bit is bad, a descriptor names an address outside the window, or a bus access that begins in it, or an
event. -/
theorem descriptor_cases (base : Addr) {w : BitVec 32} (h : ¬BadBits w) :
    AddressOutside base w ∨
    (∃ cls size o, (cls = 0 ∨ cls = 1) ∧ size ≠ 3 ∧ fitsWindow base o 1 = true ∧
      w = busDescriptor cls size (busAddr base o)) ∨
    ∃ code : BitVec 8, code.toNat ≠ 0 ∧ code.toNat < 0x0B ∧ w = eventDescriptor code := by
  rw [badBits_iff] at h
  by_cases hevent : descClass w = 2
  · obtain ⟨hzero, hcode, hlast⟩ : descEventZero w = 0 ∧ (descCode w).toNat ≠ 0 ∧ (descCode w).toNat < 0x0B := by
      simpa [hevent] using h
    exact .inr (.inr ⟨descCode w, hcode, hlast, (eventDescriptor_desc w hzero hevent).symm⟩)
  · obtain ⟨hcls, hsize, hzero⟩ : (descClass w = 0 ∨ descClass w = 1) ∧ descSize w ≠ 3 ∧ descBusZero w = 0 := by
      tauto
    by_cases hout : AddressOutside base w
    · exact .inl hout
    · have hle : (descClass w).toNat ≤ 1 := by rcases hcls with h | h <;> simp [h]
      have hin : ¬((descAddr w).toNat < base.toNat ∨ base.toNat + 0x3F < (descAddr w).toNat) := fun h => hout ⟨hle, h⟩
      obtain ⟨o, ho, hfit⟩ := exists_offset_of_window (base := base) (a := descAddr w) (by omega) (by omega)
      exact .inr (.inl ⟨_, _, o, hcls, hsize, hfit, by rw [← ho, busDescriptor_desc w hzero]⟩)

theorem decode_badBits (base : Addr) (l : Layout) {w : BitVec 32} (operand : Operand) (h : BadBits w) :
    decode base l w operand = .error .badDescriptor := by
  obtain ⟨h0, h1, h2⟩ | ⟨hcls, hbits⟩ | ⟨hcls, hbits⟩ := (badBits_iff w).1 h
  · rw [decode, if_neg (by tauto), if_neg h2]
  · rw [decode, if_pos hcls, decodeBus, if_pos hbits]
  · rw [decode_event hcls]
    unfold decodeEvent
    split
    · rfl
    · rename_i hzero
      have hcode : (descCode w).toNat = 0 ∨ 0x0B ≤ (descCode w).toNat := hbits.resolve_left hzero
      split
      case h_11 => rfl
      all_goals omega

theorem decode_addressOutside {base : Addr} (l : Layout) {w : BitVec 32} (operand : Operand) (hbits : ¬BadBits w)
    (h : AddressOutside base w) : decode base l w operand = .error .outsideWindow := by
  obtain ⟨hcls, hout⟩ : (descClass w).toNat ≤ 1 ∧
    ((descAddr w).toNat < base.toNat ∨ base.toNat + 0x3F < (descAddr w).toNat) := h
  have hbus : descClass w = 0 ∨ descClass w = 1 := by
    simp only [← BitVec.toNat_inj, BitVec.ofNat_eq_ofNat, BitVec.toNat_ofNat]
    omega
  have hgood : ¬(descSize w = 3 ∨ descBusZero w ≠ 0) := fun hbad => hbits ((badBits_iff w).2 (.inr (.inl ⟨hbus, hbad⟩)))
  rw [decode, if_pos hbus, decodeBus, if_neg hgood, if_pos (by omega)]

/-! ### Operands (R330, R333) -/

theorem size_cases {size : BitVec 2} (h : size ≠ 3) : size = 0 ∨ size = 1 ∨ size = 2 := by
  revert size
  decide

section

variable {base : Addr} {l : Layout} {size : BitVec 2} {o : Offset} {a : Addr} {operand : Operand}

/-- A read takes no operand. -/
theorem operandFits_read : OperandFits (busDescriptor 0 size a) operand ↔ operand = .none := by
  have hcls : ((busDescriptor 0 size a).extractLsb' 28 4).toNat = 0 := congrArg BitVec.toNat (descClass_bus 0 size a)
  cases operand <;> simp only [OperandFits, hcls] <;> simp

/-- A write takes data of its size. -/
theorem operandFits_write :
    OperandFits (busDescriptor 1 size a) operand ↔
      (∃ d, size = 0 ∧ operand = .byte d) ∨ (∃ d, size = 1 ∧ operand = .word d) ∨
        ∃ d, size = 2 ∧ operand = .long d := by
  have hcls : ((busDescriptor 1 size a).extractLsb' 28 4).toNat = 1 := congrArg BitVec.toNat (descClass_bus 1 size a)
  have hsz : ((busDescriptor 1 size a).extractLsb' 26 2).toNat = size.toNat :=
    congrArg BitVec.toNat (descSize_bus 1 size a)
  cases operand <;> simp only [OperandFits, hcls, hsz] <;> simp [← BitVec.toNat_inj]

/-- An event takes the operand of its code (R333). -/
theorem operandFits_event {code : BitVec 8} :
    OperandFits (eventDescriptor code) operand ↔
      (operand = .none ∧ code.toNat ∈ [0x03, 0x04, 0x07, 0x08, 0x09]) ∨
      (∃ e, operand = .epoch e ∧ code.toNat ∈ [0x01, 0x02]) ∨
      (∃ l, operand = .pairs l ∧ code.toNat ∈ [0x05, 0x06]) ∨ ∃ b, operand = .image b ∧ code.toNat = 0x0A := by
  have hcls : ((eventDescriptor code).extractLsb' 28 4).toNat = 2 := congrArg BitVec.toNat (descClass_event code)
  have hcode : ((eventDescriptor code).extractLsb' 0 8).toNat = code.toNat :=
    congrArg BitVec.toNat (descCode_event code)
  cases operand <;> simp only [OperandFits, hcls, hcode] <;> simp

theorem decodeWrite_mismatch (hsize : size ≠ 3) (hop : ¬OperandFits (busDescriptor 1 size a) operand) :
    decodeWrite base l size o operand = .error .operandMismatch := by
  rw [operandFits_write] at hop
  obtain rfl | rfl | rfl := size_cases hsize <;> cases operand <;> simp_all [decodeWrite]

end

/-! ### Encoding what was decoded (R330 to R335) -/

/-- The operation a wide access decodes to: its odd form at an odd address, its even form at an even one
where it fits. -/
theorem oddOrEven_of_ok {odd fits : Bool} {x y i : Instr} {r : Reject}
    (h : (if odd = true then Except.ok x else if fits = true then .ok y else .error r) = .ok i) :
    odd = true ∧ i = x ∨ odd = false ∧ fits = true ∧ i = y := by
  cases odd <;> cases fits <;> simp_all

section

variable {base : Addr} {l : Layout} {size : BitVec 2} {o : Offset} {operand : Operand} {i : Instr}

theorem encode_of_decodeWrite (hl : l.offsets.toList.Nodup) (hsize : size ≠ 3) (hfit : fitsWindow base o 1 = true)
    (h : decodeWrite base l size o operand = .ok i) :
    encode base l i = (busDescriptor 1 size (busAddr base o), operand) ∧ wellFormed base l i = true := by
  have hop : OperandFits (busDescriptor 1 size (busAddr base o)) operand := by
    by_contra hmismatch
    rw [decodeWrite_mismatch hsize hmismatch] at h
    cases h
  obtain ⟨d, rfl, rfl⟩ | ⟨d, rfl, rfl⟩ | ⟨d, rfl, rfl⟩ := operandFits_write.1 hop
  case inl =>
    obtain rfl : byteWriteForm (rowAt l o) d = i := Except.ok.inj h
    rw [encode_byteWriteForm, wellFormed_byteWriteForm, encodeByteWrite, offsetOf_rowAt hl]
    exact ⟨rfl, hfit⟩
  all_goals
    obtain ⟨hodd, rfl⟩ | ⟨heven, hfits, rfl⟩ := oddOrEven_of_ok h
    · exact ⟨rfl, wfOdd_iff.2 ⟨hfit, hodd⟩⟩
    · exact ⟨rfl, wfEven_iff.2 ⟨hfits, heven⟩⟩

theorem encode_of_decodeRead (hl : l.offsets.toList.Nodup) (hsize : size ≠ 3) (hfit : fitsWindow base o 1 = true)
    (h : decodeRead base l size o operand = .ok i) :
    encode base l i = (busDescriptor 0 size (busAddr base o), operand) ∧ wellFormed base l i = true := by
  have hop : operand = .none := by
    by_contra hmismatch
    rw [decodeRead, if_pos hmismatch] at h
    cases h
  subst hop
  obtain rfl | rfl | rfl := size_cases hsize
  case inl =>
    obtain rfl : byteReadForm (rowAt l o) = i := Except.ok.inj h
    rw [encode_byteReadForm, wellFormed_byteReadForm, encodeByteRead, offsetOf_rowAt hl]
    exact ⟨rfl, hfit⟩
  all_goals
    obtain ⟨hodd, rfl⟩ | ⟨heven, hfits, rfl⟩ := oddOrEven_of_ok h
    · exact ⟨rfl, wfOdd_iff.2 ⟨hfit, hodd⟩⟩
    · exact ⟨rfl, wfEven_iff.2 ⟨hfits, heven⟩⟩

theorem encode_of_decodeEvent {code : BitVec 8} (h : decodeEvent (eventDescriptor code) operand = .ok i) :
    encode base l i = (eventDescriptor code, operand) ∧ wellFormed base l i = true := by
  have hofNat : code = BitVec.ofNat 8 code.toNat := by simp
  simp only [decodeEvent, descEventZero_event, descCode_event, ne_eq, not_true, if_false, plainEvent] at h
  split at h
  case h_11 => cases h
  all_goals
    rename_i hcode
    rw [hcode] at hofNat
    subst hofNat
    cases operand <;> cases h
    exact ⟨rfl, rfl⟩

end

/-- Settles O2: what decodes is a bus access that begins in the window or an event, and each gives back its fields. -/
theorem encodeOfDecode : Obligations.EncodeOfDecode := by
  intro base l w operand i hl h
  by_cases hbits : BadBits w
  · rw [decode_badBits base l operand hbits] at h
    cases h
  obtain hout | ⟨cls, size, o, hcls, hsize, hfit, rfl⟩ | ⟨code, -, -, rfl⟩ := descriptor_cases base hbits
  · rw [decode_addressOutside l operand hbits hout] at h
    cases h
  · rw [decode_bus base l cls size o operand hcls hsize hfit] at h
    obtain rfl | rfl := hcls
    · exact encode_of_decodeRead hl.offsets hsize hfit h
    · exact encode_of_decodeWrite hl.offsets hsize hfit h
  · rw [decode_event (descClass_event code)] at h
    exact encode_of_decodeEvent h

/-! ### Every descriptor (R334, 60_exceptions.md R902) -/

/-- Bytes of an access, by the size field (R330). -/
def accessWidth (size : BitVec 2) : Nat := 2 ^ size.toNat

/-- What a descriptor decodes to when no bit is bad, its address lies in the window and its operand fits: at an odd
address the form that is refused as misaligned, past the end nothing, and else an operation. -/
structure DecodesInWindow (base : Addr) (w : BitVec 32) (r : Except Reject Instr) : Prop where
  odd : OddWide w → ∃ i, r = .ok i ∧ ∀ s, exec i s = refuseMisaligned s
  past : ¬OddWide w → PastTheEnd base w → r = .error .outsideWindow
  legal : ¬OddWide w → ¬PastTheEnd base w → base.toNat + 64 ≤ 2 ^ 24 → ∃ i, r = .ok i

section

variable {base : Addr} {l : Layout} {cls : BitVec 4} {size : BitVec 2} {o : Offset} {operand : Operand}

theorem class_toNat_le (hcls : cls = 0 ∨ cls = 1) : cls.toNat ≤ 1 := by
  obtain rfl | rfl := hcls <;> decide

theorem oddWide_bus {a : Addr} (hcls : cls = 0 ∨ cls = 1) (hsize : size ≠ 3) :
    OddWide (busDescriptor cls size a) ↔ size ≠ 0 ∧ isOddAddr a = true := by
  change (descClass _).toNat ≤ 1 ∧ ((descSize _).toNat = 1 ∨ (descSize _).toNat = 2) ∧ (descAddr _).toNat % 2 = 1 ↔ _
  rw [descClass_bus, descSize_bus, descAddr_bus, and_iff_right (class_toNat_le hcls), isOddAddr, BitVec.getLsbD,
    Nat.testBit_zero, decide_eq_true_eq]
  refine and_congr_left fun _ => ?_
  revert size
  decide

/-- Where an access begins in the window, R334's offset past 0x3F is the offset the access does not fit at. -/
theorem pastTheEnd_bus (hcls : cls = 0 ∨ cls = 1) (hfit : fitsWindow base o 1 = true) :
    PastTheEnd base (busDescriptor cls size (busAddr base o)) ↔
      (size = 1 ∨ size = 2) ∧ 64 < o.toNat + accessWidth size := by
  change (descClass _).toNat ≤ 1 ∧ ((descSize _).toNat = 1 ∧ _ < (descAddr _).toNat + 1 ∨
    (descSize _).toNat = 2 ∧ _ < (descAddr _).toNat + 3) ↔ _
  rw [descClass_bus, descSize_bus, descAddr_bus, and_iff_right (class_toNat_le hcls), busAddr_toNat hfit]
  have hone : size = 1 ↔ size.toNat = 1 := BitVec.toNat_inj.symm
  have htwo : size = 2 ↔ size.toNat = 2 := BitVec.toNat_inj.symm
  rw [hone, htwo, accessWidth]
  constructor
  · rintro (⟨hs, h⟩ | ⟨hs, h⟩) <;> rw [hs] <;> omega
  · rintro ⟨hs | hs, h⟩ <;> rw [hs] at h ⊢ <;> omega

theorem decodesInWindow_byte (hcls : cls = 0 ∨ cls = 1) (hfit : fitsWindow base o 1 = true) (i : Instr) :
    DecodesInWindow base (busDescriptor cls 0 (busAddr base o)) (.ok i) where
  odd h := absurd rfl ((oddWide_bus hcls (by decide)).1 h).1
  past _ h := absurd ((pastTheEnd_bus hcls hfit).1 h).1 (by decide)
  legal _ _ _ := ⟨i, rfl⟩

theorem decodesInWindow_wide (hcls : cls = 0 ∨ cls = 1) (hsize : size = 1 ∨ size = 2)
    (hfit : fitsWindow base o 1 = true) {x : Instr} (hx : ∀ s, exec x s = refuseMisaligned s) (y : Instr) :
    DecodesInWindow base (busDescriptor cls size (busAddr base o))
      (if isOddAddr (busAddr base o) = true then .ok x
      else if fitsWindow base o (accessWidth size) = true then .ok y else .error .outsideWindow) := by
  have hsize' : size ≠ 0 ∧ size ≠ 3 := by
    obtain rfl | rfl := hsize <;> decide
  have hodd := oddWide_bus (a := busAddr base o) hcls hsize'.2
  rw [and_iff_right hsize'.1] at hodd
  have hpast := pastTheEnd_bus (size := size) hcls hfit
  rw [and_iff_right hsize] at hpast
  constructor
  case odd =>
    intro h
    rw [if_pos (hodd.1 h)]
    exact ⟨x, rfl, hx⟩
  case past =>
    intro h hp
    have hnot : ¬fitsWindow base o (accessWidth size) = true := by
      have := hpast.1 hp
      simp only [fitsWindow, Bool.and_eq_true, decide_eq_true_eq]
      omega
    rw [if_neg (fun h' => h (hodd.2 h')), if_neg hnot]
  case legal =>
    intro h hp hspace
    have hfits : fitsWindow base o (accessWidth size) = true := by
      have := mt hpast.2 hp
      simp only [fitsWindow, Bool.and_eq_true, decide_eq_true_eq]
      omega
    rw [if_neg (fun h' => h (hodd.2 h')), if_pos hfits]
    exact ⟨y, rfl⟩

theorem decodesInWindow_event (code : BitVec 8) (i : Instr) : DecodesInWindow base (eventDescriptor code) (.ok i) := by
  have hclass : ¬(descClass (eventDescriptor code)).toNat ≤ 1 := by rw [descClass_event]; decide
  exact ⟨fun h => absurd h.1 hclass, fun _ h => absurd h.1 hclass, fun _ _ _ => ⟨i, rfl⟩⟩

theorem decodeRead_inWindow (hsize : size ≠ 3) (hfit : fitsWindow base o 1 = true) :
    DecodesInWindow base (busDescriptor 0 size (busAddr base o)) (decodeRead base l size o .none) := by
  obtain rfl | rfl | rfl := size_cases hsize
  · exact decodesInWindow_byte (.inl rfl) hfit _
  · exact decodesInWindow_wide (.inl rfl) (.inl rfl) hfit (fun _ => rfl) _
  · exact decodesInWindow_wide (.inl rfl) (.inr rfl) hfit (fun _ => rfl) _

theorem decodeWrite_inWindow (hfit : fitsWindow base o 1 = true)
    (hop : OperandFits (busDescriptor 1 size (busAddr base o)) operand) :
    DecodesInWindow base (busDescriptor 1 size (busAddr base o)) (decodeWrite base l size o operand) := by
  obtain ⟨d, rfl, rfl⟩ | ⟨d, rfl, rfl⟩ | ⟨d, rfl, rfl⟩ := operandFits_write.1 hop
  · exact decodesInWindow_byte (.inr rfl) hfit _
  · exact decodesInWindow_wide (.inr rfl) (.inl rfl) hfit (fun _ => rfl) _
  · exact decodesInWindow_wide (.inr rfl) (.inr rfl) hfit (fun _ => rfl) _

/-- An event names an operation with the operand R333 gives its code, and none with another. -/
theorem decodeEvent_code {code : BitVec 8} (hcode : code.toNat ≠ 0) (hlast : code.toNat < 0x0B) :
    (OperandFits (eventDescriptor code) operand → ∃ i, decodeEvent (eventDescriptor code) operand = .ok i) ∧
    (¬OperandFits (eventDescriptor code) operand →
      decodeEvent (eventDescriptor code) operand = .error .operandMismatch) := by
  rw [operandFits_event]
  simp only [decodeEvent, descEventZero_event, descCode_event, ne_eq, not_true, if_false, plainEvent]
  split
  case h_11 =>
    simp only [imp_false] at *
    omega
  all_goals
    rename_i hc
    rw [hc]
    cases operand <;> simp

end

/-- Where no bit is bad and the address lies in the window, the operand decides, and with one that fits the place. -/
theorem decode_inWindow {base : Addr} (l : Layout) {w : BitVec 32} {operand : Operand} (hbits : ¬BadBits w)
    (hout : ¬AddressOutside base w) :
    (OperandFits w operand → DecodesInWindow base w (decode base l w operand)) ∧
    (¬OperandFits w operand → decode base l w operand = .error .operandMismatch) := by
  obtain h | ⟨cls, size, o, hcls, hsize, hfit, rfl⟩ | ⟨code, hcode, hlast, rfl⟩ := descriptor_cases base hbits
  · exact absurd h hout
  · rw [decode_bus base l cls size o operand hcls hsize hfit]
    obtain rfl | rfl := hcls
    · rw [operandFits_read, if_pos rfl]
      exact ⟨fun hop => hop ▸ decodeRead_inWindow hsize hfit, fun hop => if_pos hop⟩
    · exact ⟨decodeWrite_inWindow hfit, decodeWrite_mismatch hsize⟩
  · rw [decode_event (descClass_event code)]
    obtain ⟨hfits, hmis⟩ := decodeEvent_code (operand := operand) hcode hlast
    refine ⟨fun hop => ?_, hmis⟩
    obtain ⟨i, hi⟩ := hfits hop
    exact hi ▸ decodesInWindow_event code i

/-- A descriptor with no bad bit has an operand of its kind: the one whose words are zero. -/
theorem operandFits_zeroOperand {base : Addr} {w : BitVec 32} (hbits : ¬BadBits w) (hout : ¬AddressOutside base w) :
    OperandFits w (zeroOperand w) := by
  obtain h | ⟨cls, size, o, hcls, hsize, hfit, rfl⟩ | ⟨code, hcode, hlast, rfl⟩ := descriptor_cases base hbits
  · exact absurd h hout
  · obtain rfl | rfl := hcls
    · rw [operandFits_read, zeroOperand, descClass_bus]
      rfl
    · rw [operandFits_write, zeroOperand, descClass_bus, descSize_bus]
      obtain rfl | rfl | rfl := size_cases hsize <;> simp
  · rw [operandFits_event, zeroOperand, descClass_event, if_neg (by decide), if_pos rfl, descCode_event]
    split
    case h_6 =>
      refine .inl ⟨rfl, ?_⟩
      simp only [imp_false, List.mem_cons, List.not_mem_nil, or_false] at *
      omega
    all_goals simp_all

/-- Settles O3: with the operand whose words are zero. -/
theorem legalDescriptorsDecode : Obligations.LegalDescriptorsDecode := by
  intro base l w hspace hlegal
  simp only [IllegalDescriptor, not_or] at hlegal
  obtain ⟨hbits, hout, hodd, hpast⟩ := hlegal
  exact ⟨zeroOperand w, ((decode_inWindow l hbits hout).1 (operandFits_zeroOperand hbits hout)).legal hodd hpast hspace⟩

theorem step_of_decode_error {s : State} {op : Operation} {rest : List Operation} {r : Reject}
    (hstream : s.stream = op :: rest)
    (h : decode s.params.regBase s.params.layout op.descriptor op.operand = .error r) :
    step s = .refused (refusalOf r) := by
  have hop : decodeOperation op s = .error r := h
  simp only [step, hstream, hop]

/-- An odd access is refused in every state, as misaligned in a ready one. -/
theorem refuseMisaligned_refuses (s : State) : ∃ r, refuseMisaligned s = .refused r := by
  unfold refuseMisaligned whenReady
  split
  · exact ⟨_, rfl⟩
  · split <;> exact ⟨_, rfl⟩

/-- Settles O4: a step refuses what the decoder rejects, for the decoder's reason, and runs an odd wide form, which the
machine refuses. -/
theorem reservedDescriptorsRefused : Obligations.ReservedDescriptorsRefused := by
  intro s op rest hstream w base
  have bad (hbits : BadBits w) : step s = .refused .badDescriptor :=
    step_of_decode_error hstream (decode_badBits _ _ _ hbits)
  have outside (hbits : ¬BadBits w) (hout : AddressOutside base w) : step s = .refused .outsideWindow :=
    step_of_decode_error hstream (decode_addressOutside _ _ hbits hout)
  have inWindow (hbits : ¬BadBits w) (hout : ¬AddressOutside base w) :=
    decode_inWindow (operand := op.operand) s.params.layout hbits hout
  have mismatch (hbits : ¬BadBits w) (hout : ¬AddressOutside base w) (hop : ¬OperandFits w op.operand) :
      step s = .refused .operandMismatch := step_of_decode_error hstream ((inWindow hbits hout).2 hop)
  have odd (hbits : ¬BadBits w) (hout : ¬AddressOutside base w) (hop : OperandFits w op.operand) (hodd : OddWide w) :
      step s = refuseMisaligned (arrive op rest s) := by
    obtain ⟨i, hi, hexec⟩ := ((inWindow hbits hout).1 hop).odd hodd
    exact (stepRunsTheDecodedOperation.1 s op rest i hstream hi).trans (hexec _)
  have past (hbits : ¬BadBits w) (hout : ¬AddressOutside base w) (hop : OperandFits w op.operand) (hodd : ¬OddWide w)
      (hpast : PastTheEnd base w) : step s = .refused .outsideWindow :=
    step_of_decode_error hstream (((inWindow hbits hout).1 hop).past hodd hpast)
  refine ⟨fun hill => ?_, bad, outside, fun hbits hout hop => ⟨fun hodd hready => ?_, past hbits hout hop⟩, mismatch⟩
  · by_cases hbits : BadBits w
    · exact ⟨_, bad hbits⟩
    by_cases hout : AddressOutside base w
    · exact ⟨_, outside hbits hout⟩
    by_cases hop : OperandFits w op.operand
    · by_cases hodd : OddWide w
      · rw [odd hbits hout hop hodd]
        exact refuseMisaligned_refuses _
      · obtain h | h | h | hpast := hill
        · exact absurd h hbits
        · exact absurd h hout
        · exact absurd h hodd
        · exact ⟨_, past hbits hout hop hodd hpast⟩
    · exact ⟨_, mismatch hbits hout hop⟩
  · rw [odd hbits hout hop hodd]
    exact whenReady_of_ready hready.1 hready.2 _

/-! ### Words written out from the encoding tables -/

/-- Settles O5: the decoder is run on each word. -/
theorem specWordsDecode : Obligations.SpecWordsDecode := by
  refine ⟨rfl, rfl, rfl, rfl, rfl, rfl, rfl, rfl, rfl, rfl, ?_⟩
  decide

end Sys2Proof

/-! PROOFS. The claims of 30_encoding.md on word and long accesses: each is its byte accesses in order (R331, R332). -/

namespace Sys2Proof.Machine

/-! ### Writes -/

/-- The byte writes of a wide write from offset `o` on, each of what the layout table has at its offset. -/
def byteWrites (l : Layout) (o : Offset) : List Byte → List Instr
  | [] => []
  | b :: rest => byteWriteForm (rowAt l o) b :: byteWrites l (o + 1) rest

/-- Run one after the other, the byte writes give what they give in one step: no byte write ends the machine's being
ready, or changes the layout table the next one is found by. -/
theorem runAll_byteWrites {s : State} (h : Ready s) (o : Offset) (bytes : List Byte) :
    runAll (byteWrites s.params.layout o bytes) s = finish (writeBytes o bytes s) := by
  induction bytes generalizing o s with
  | nil => rfl
  | cons b rest ih =>
    rw [byteWrites, runAll, exec_byteWriteForm_rowAt, whenReady_of_ready h.1 h.2, writeBytes]
    cases hb : write8 o b s with
    | error e => rfl
    | ok t =>
      obtain ⟨hp, hr, -⟩ := writeRow_frame hb
      have hready : Ready t := ⟨hp ▸ h.1, hr ▸ h.2⟩
      have hrest := ih hready (o + 1)
      rw [hp] at hrest
      exact hrest

/-- Where a wide write runs, it is its byte writes, and it ends as they do. -/
theorem wideWrite_claims {s : State} {o : Offset} {bytes : List Byte} {i : Instr} (h : Ready s)
    (hend : o.toNat + bytes.length ≤ 64) (hrun : exec i s = finish (writeBytes o bytes s)) :
    exec i s = runAll (byteWrites s.params.layout o bytes) s ∧
      (WideWriteOpen s o bytes → ∃ t, exec i s = .next t) ∧
      (¬WideWriteOpen s o bytes → exec i s = .refused .unmodelledFrameCountWrite) := by
  have hl : LayoutOk s.params.layout := ((paramsValid_iff_paramsOk _).1 h.1).2
  obtain ⟨hopen, hclosed⟩ := writeBytes_ends hl.offsets hend
  rw [hrun]
  refine ⟨(runAll_byteWrites h o bytes).symm, fun hw => ?_, fun hw => by rw [hclosed hw, finish_error]⟩
  obtain ⟨t, ht⟩ := hopen hw
  exact ⟨t, by rw [ht, finish_ok]⟩

/-- Settles O25: a word is two byte writes and a long four, and byte writes end where `WideWriteOpen` says. -/
theorem wideWritesAreByteWrites : Obligations.WideWritesAreByteWrites := by
  intro s o h heven at_
  constructor
  · intro d hwin hspace
    have hrun : exec (.wwEven o d) s = finish (writeBytes o [d.extractLsb' 8 8, d.extractLsb' 0 8] s) := by
      rw [← writeWord_eq]
      exact wideAccess_of_even h heven hwin hspace _
    simpa [at_, byteWrites] using wideWrite_claims h hwin hrun
  · intro d hwin hspace
    have hrun : exec (.wlEven o d) s = finish (writeBytes o
        [d.extractLsb' 24 8, d.extractLsb' 16 8, d.extractLsb' 8 8, d.extractLsb' 0 8] s) := by
      rw [← writeLong_eq]
      exact wideAccess_of_even h heven hwin hspace _
    simpa [at_, byteWrites, BitVec.add_assoc] using wideWrite_claims h hwin hrun

/-! ### Reads -/

/-- A byte read returns a byte and leaves a count of draws, by the offset and the count before it alone: the results so
far make no difference. -/
theorem byteRead_runs {s : State} (h : Ready s) (o : Offset) (n : Nat) :
    ∃ x m, regByte o { s with draws := n } = x ∧ regRead o { s with draws := n } = { s with draws := m } ∧
      ∀ rest r, runAll (byteReadForm (rowAt s.params.layout o) :: rest) { s with draws := n, results := r } =
        runAll rest { s with draws := m, results := r ++ [.byte x] } := by
  have hready (r : List Result) : Ready { s with draws := n, results := r } := h
  by_cases ha : isAssigned (rowAt s.params.layout o) = true
  · refine ⟨_, n, rfl, if_pos ha, fun rest r => ?_⟩
    rw [runAll, exec_byteReadForm, whenReady_of_ready (hready r).1 (hready r).2, rowRead, if_pos ha]
    rfl
  · refine ⟨_, n + 1, rfl, if_neg ha, fun rest r => ?_⟩
    rw [runAll, exec_byteReadForm, whenReady_of_ready (hready r).1 (hready r).2, rowRead, if_neg ha]
    rfl

/-- A word read is two byte reads, the second from where the first left the count of draws. -/
theorem wordRead_runs {s : State} (h : Ready s) (o : Offset) (n : Nat) :
    ∃ x y m, regWord o { s with draws := n } = x ++ y ∧ regReadWord o { s with draws := n } = { s with draws := m } ∧
      ∀ rest r, runAll (byteReadForm (rowAt s.params.layout o) :: byteReadForm (rowAt s.params.layout (o + 1)) :: rest)
          { s with draws := n, results := r } =
        runAll rest { s with draws := m, results := r ++ [.byte x, .byte y] } := by
  obtain ⟨x, k, hx, hk, runx⟩ := byteRead_runs h o n
  obtain ⟨y, m, hy, hm, runy⟩ := byteRead_runs h (o + 1) k
  refine ⟨x, y, m, ?_, ?_, fun rest r => ?_⟩
  · rw [regWord, hx, hk, hy, joinBytes]
  · rw [regReadWord, hk, hm]
  · rw [runx, runy, List.append_assoc]
    rfl

/-- Settles O30: a word read is its two byte reads, and a long read is two word reads. -/
theorem wideReadsAreByteReads : Obligations.WideReadsAreByteReads := by
  intro s o h heven at_
  obtain ⟨x, y, n, hword, hafter, hrun⟩ := wordRead_runs h o s.draws
  refine ⟨fun hwin hspace => ⟨x, y, n, ?_, ?_⟩, fun hwin hspace => ?_⟩
  · simpa [at_, runAll] using hrun [] s.results
  · have hexec : exec (.rwEven o) s = .next (giveResult (.word (regWord o s)) (regReadWord o s)) :=
      wideAccess_of_even h heven hwin hspace _
    rw [hexec, hword, hafter, giveResult]
  · obtain ⟨z, w, m, hword', hafter', hrun'⟩ := wordRead_runs h (o + 2) n
    refine ⟨x, y, z, w, m, ?_, ?_⟩
    · have hall := hrun [at_ 2, at_ 3] s.results
      have hrest := hrun' [] (s.results ++ [.byte x, .byte y])
      rw [BitVec.add_assoc] at hrest
      simpa [at_, runAll, List.append_assoc] using hall.trans hrest
    · have hlong : regLong o s = x ++ y ++ z ++ w := by
        rw [regLong, hword, hafter, hword', joinWords, BitVec.append_assoc (x₁ := x ++ y), BitVec.cast_eq]
      have hexec : exec (.rlEven o) s = .next (giveResult (.long (regLong o s)) (regReadLong o s)) :=
        wideAccess_of_even h heven hwin hspace _
      rw [hexec, hlong, regReadLong, hafter, hafter', giveResult]

end Sys2Proof.Machine

/-! PROOFS. The claims of 30_encoding.md on the pseudo-operations (R337): the writes of an address leave what the last
of them latches, and `select` runs no edge. -/

namespace Sys2Proof.Machine

/-! ### setstart and setend -/

/-- The address latched is that of the bytes written, with bit 0 cleared. -/
theorem assembleAddr_eq_append (h m l : Byte) : assembleAddr h m l = h ++ m ++ (l &&& 0xFE#8) := by
  have hmask : 0xFFFFFE#24 = 0xFF#8 ++ 0xFF#8 ++ 0xFE#8 := rfl
  have hkeep (b : Byte) : b &&& 0xFF#8 = b := BitVec.and_allOnes
  rw [assembleAddr, hmask, BitVec.and_append, BitVec.and_append, hkeep, hkeep]

/-- After a change of the register file a latch is what that latch alone makes it: the latch before is overwritten. -/
theorem latchStart_latchStart (f : RawRegs → RawRegs) (s : State) :
    updBlock latchStart (updRaw f (updBlock latchStart s)) = updBlock latchStart (updRaw f s) := by
  cases hsel : s.block.dmaSelected <;> simp [updBlock, updRaw, latchStart, selectedChan, hsel]

theorem latchEnd_latchEnd (f : RawRegs → RawRegs) (s : State) :
    updBlock latchEnd (updRaw f (updBlock latchEnd s)) = updBlock latchEnd (updRaw f s) := by
  cases hsel : s.block.dmaSelected <;> simp [updBlock, updRaw, latchEnd, selectedChan, hsel]

/-- Three byte writes that each store a byte and latch an address leave the three bytes and one latch. -/
theorem runAll_latchingWrites {latch : Block → Block}
    (hlatch : ∀ f s, updBlock latch (updRaw f (updBlock latch s)) = updBlock latch (updRaw f s))
    {i j k : Instr} {f g e : RawRegs → RawRegs} {s : State} (h : Ready s)
    (hi : ∀ u, exec i u = whenReady u (.next (updBlock latch (updRaw f u))))
    (hj : ∀ u, exec j u = whenReady u (.next (updBlock latch (updRaw g u))))
    (hk : ∀ u, exec k u = whenReady u (.next (updBlock latch (updRaw e u)))) :
    runAll [i, j, k] s = .next (updBlock latch (updRaw (e ∘ g ∘ f) s)) := by
  have run {i : Instr} {f : RawRegs → RawRegs} (hi : ∀ u, exec i u = whenReady u (.next (updBlock latch (updRaw f u))))
      {u : State} (hu : Ready u) (rest : List Instr) :
      runAll (i :: rest) u = runAll rest (updBlock latch (updRaw f u)) := by
    rw [runAll, hi, whenReady_of_ready hu.1 hu.2, thenDo]
  have keeps {f : RawRegs → RawRegs} {u : State} (hu : Ready u) : Ready (updBlock latch (updRaw f u)) := hu
  calc
    runAll [i, j, k] s = runAll [j, k] (updBlock latch (updRaw f s)) := run hi h _
    _ = runAll [k] (updBlock latch (updRaw g (updBlock latch (updRaw f s)))) := run hj (keeps h) _
    _ = .next (updBlock latch (updRaw e (updBlock latch (updRaw g (updBlock latch (updRaw f s)))))) :=
      run hk (keeps (keeps h)) _
    _ = .next (updBlock latch (updRaw e (updRaw g (updRaw f s)))) := by simp only [hlatch]

theorem runAll_setStart {s : State} (h : Ready s) (a : Addr) :
    runAll (setStart a) s = .next (updBlock latchStart
      (updRaw (fun r => { r with startHi := addrHi a, startMid := addrMid a, startLo := addrLo a }) s)) :=
  runAll_latchingWrites latchStart_latchStart (f := fun r => { r with startHi := addrHi a })
    (g := fun r => { r with startMid := addrMid a }) (e := fun r => { r with startLo := addrLo a }) h
    (fun _ => rfl) (fun _ => rfl) (fun _ => rfl)

theorem runAll_setEnd {s : State} (h : Ready s) (a : Addr) :
    runAll (setEnd a) s = .next (updBlock latchEnd
      (updRaw (fun r => { r with endHi := addrHi a, endMid := addrMid a, endLo := addrLo a }) s)) :=
  runAll_latchingWrites latchEnd_latchEnd (f := fun r => { r with endHi := addrHi a })
    (g := fun r => { r with endMid := addrMid a }) (e := fun r => { r with endLo := addrLo a }) h
    (fun _ => rfl) (fun _ => rfl) (fun _ => rfl)

/-! ### select -/

theorem getLsbD_oneBit (i j : Fin 8) : (1#8 <<< (i : Nat)).getLsbD j = decide (i = j) := by
  rw [← BitVec.twoPow, BitVec.getLsbD_twoPow, decide_eq_true i.isLt, Bool.true_and, decide_eq_decide, Fin.val_inj]

theorem getLsbD_clearBit (i j : Fin 8) (v : Byte) : (clearBit i v).getLsbD j = (v.getLsbD j && !decide (i = j)) := by
  rw [clearBit, BitVec.getLsbD_and, BitVec.getLsbD_not, getLsbD_oneBit, decide_eq_true j.isLt, Bool.true_and]

theorem getLsbD_setBit (i j : Fin 8) (v : Byte) : (setBit i v).getLsbD j = (v.getLsbD j || decide (i = j)) := by
  rw [setBit, BitVec.getLsbD_or, getLsbD_oneBit]

theorem runEdge_of_eq {ch : Chan} {run : Bool} {s : State} (h : (dmaOf ch s.block).isRunning = run) :
    runEdge ch run s = s := by
  cases run <;> simp [runEdge, h]

/-- A DMA-control byte that differs from the stored one in the select bit alone changes that bit and `dmaSelected`
alone, where the run bits and loop flags are those of the stored byte (40 R402). -/
theorem storeDmaControl_select {s : State} {d : Byte} (hl : LayoutOk s.params.layout)
    (hgood : GoodImage s.params s.block)
    (hd : ∀ i : Fin 8, i ≠ s.params.layout.dmaSelect → d.getLsbD i = s.block.raw.dmaControl.getLsbD i) :
    storeDmaControl d s = { s with block := { s.block with
      raw := { s.block.raw with dmaControl := d }
      dmaSelected := d.getLsbD s.params.layout.dmaSelect } } := by
  obtain ⟨hplayRun, hplayLoop, hrecRun, hrecLoop⟩ : s.params.layout.playRun ≠ s.params.layout.dmaSelect ∧
      s.params.layout.playLoop ≠ s.params.layout.dmaSelect ∧ s.params.layout.recRun ≠ s.params.layout.dmaSelect ∧
      s.params.layout.recLoop ≠ s.params.layout.dmaSelect := by
    have hbits := hl.dmaControl
    simp only [List.nodup_cons, List.mem_cons, List.not_mem_nil, or_false, not_or] at hbits
    tauto
  have hplay := hgood.playRun.trans (hd _ hplayRun).symm
  have hrec := hgood.recRun.trans (hd _ hrecRun).symm
  have hloopPlay := hgood.loops.1.trans (hd _ hplayLoop).symm
  have hloopRec := hgood.loops.2.trans (hd _ hrecLoop).symm
  simp only [storeDmaControl, updRaw_block]
  rw [runEdge_of_eq (ch := .play) (run := playRunField _ d) (s := updRaw _ s) hplay,
    runEdge_of_eq (ch := .record) (run := recRunField _ d) (s := updRaw _ s) hrec]
  simp only [updBlock, updRaw, decodeDmaControl, playLoopField, recLoopField, dmaSelectField, ← hloopPlay, ← hloopRec]

/-- Settles O60: each address write latches, so the last one decides; `select` differs from the stored byte in the
select bit alone. -/
theorem pseudoOperationsExpand : Obligations.PseudoOperationsExpand := by
  intro s a h l latched
  have hlatched : latched = assembleAddr (addrHi a) (addrMid a) (addrLo a) := (assembleAddr_eq_append _ _ _).symm
  have hl : LayoutOk l := ((paramsValid_iff_paramsOk _).1 h.1).2
  have run {d : Byte} {t : State} (ht : storeDmaControl d s = t) : exec (.wb01DmaControl d) s = .next t :=
    ht ▸ whenReady_of_ready h.1 h.2 _
  refine ⟨⟨rfl, ?_⟩, ⟨rfl, ?_⟩, fun hinv => ⟨?_, ?_⟩, rfl, rfl, rfl⟩
  · rw [runAll_setStart h, hlatched]
    cases hsel : s.block.dmaSelected <;>
      simp [updBlock, updRaw, latchStart, selectedChan, hsel, rawStart, addrHi, addrMid, addrLo]
  · rw [runAll_setEnd h, hlatched]
    cases hsel : s.block.dmaSelected <;>
      simp [updBlock, updRaw, latchEnd, selectedChan, hsel, rawEnd, addrHi, addrMid, addrLo]
  · refine run ((storeDmaControl_select hl ((imageOk_iff _ _).1 (hinv.2 h.2)) fun i hi => ?_).trans ?_)
    · rw [getLsbD_clearBit, decide_eq_false hi.symm, Bool.not_false, Bool.and_true]
    · rw [getLsbD_clearBit, decide_eq_true rfl, Bool.not_true, Bool.and_false, clearBit]
  · refine run ((storeDmaControl_select hl ((imageOk_iff _ _).1 (hinv.2 h.2)) fun i hi => ?_).trans ?_)
    · rw [getLsbD_setBit, decide_eq_false hi.symm, Bool.or_false]
    · rw [getLsbD_setBit, decide_eq_true rfl, Bool.or_true, setBit]

end Sys2Proof.Machine

/-! PROOFS. The claims of 40_register_write.md: what each byte write stores, decodes, latches, starts and stops. -/

namespace Sys2Proof.Machine

/-! ### Writes that store and decode -/

/-- A group of byte writes that each put their register file in place and then apply `f` to the block: where the
machine is ready, that is what each of them does (R400). -/
theorem exec_of_mem_writes {f : Block → Block} {s : State} {writes : List (Instr × RawRegs)}
    (hwrites : writes.map (fun w => exec w.1 s) =
      writes.map (fun w => whenReady s (.next { s with block := f { s.block with raw := w.2 } })))
    (h : Ready s) {i : Instr} {r : RawRegs} (hi : (i, r) ∈ writes) :
    exec i s = .next { s with block := f { s.block with raw := r } } :=
  (List.map_inj_left.1 hwrites _ hi).trans (whenReady_of_ready h.1 h.2 _)

/-- Settles O15: each of the 39 writes is the one discarded write. -/
theorem discardedWritesChangeNothing : Obligations.DiscardedWritesChangeNothing := by
  intro s d i h hi
  have hdiscard : ∀ i ∈ discardedWrites d, exec i s = whenReady s (.next s) := List.map_eq_replicate_iff.1 rfl
  rw [hdiscard i hi, whenReady_of_ready h.1 h.2]

/-- Settles O16: these writes decode nothing. -/
theorem passThroughWritesOnlyStore : Obligations.PassThroughWritesOnlyStore :=
  fun _ _ _ _ h hi => exec_of_mem_writes (f := id) rfl h hi

/-- Settles O17: the two decodes read their fields where the layout table has them. -/
theorem interruptEnableAndRecordTrackWrites : Obligations.InterruptEnableAndRecordTrackWrites :=
  ⟨fun _ _ h => ⟨whenReady_of_ready h.1 h.2 _, whenReady_of_ready h.1 h.2 _⟩, rfl, rfl, rfl, rfl, rfl⟩

/-- Settles O21: by the two branches of `storeCountLo`. -/
theorem frameCountLowWrite : Obligations.FrameCountLowWrite := by
  intro s d h
  have hrun : exec (.wb0DFrameCountLo d) s = finish (storeCountLo d s) := whenReady_of_ready h.1 h.2 _
  have hopen : CountLoOpen s ↔ (s.block.dmaSelected || s.params.frameCountLowPlay == .ignore) = true := by
    rw [CountLoOpen, Bool.or_eq_true, beq_iff_eq]
  rw [hrun, hopen, storeCountLo]
  exact ⟨fun hc => by rw [if_pos hc]; rfl, fun hc => by rw [if_neg hc]; rfl⟩

/-! ### Run edges (R402) -/

/-- An edge up starts the channel: its latched bounds become the active ones, with a warning where they are degenerate
(43_transfer_engine.md R731, R732). -/
theorem startChannel_eq_edgeChannel {ch : Chan} {s : State} (hstopped : (dmaOf ch s.block).isRunning = false) :
    startChannel ch s = { s with
      block := mapDma ch (edgeChannel true (latchedStart ch s.block) (latchedEnd ch s.block)) s.block
      events := s.events ++ edgeEvents ch true (latchedStart ch s.block) (latchedEnd ch s.block) (dmaOf ch s.block) } := by
  have hblock : mapDma ch (fun c => { c with slot := 0, isRunning := true }) (loadBounds ch s.block) =
      mapDma ch (edgeChannel true (latchedStart ch s.block) (latchedEnd ch s.block)) s.block := by
    cases ch <;> simp_all [edgeChannel, loadBounds]
  by_cases hle : (latchedEnd ch s.block).toNat ≤ (latchedStart ch s.block).toNat
  · simp [startChannel, loadFrame, isDegenerate, edgeEvents, hstopped, hle, updDma, updBlock, emit, hblock]
  · simp [startChannel, loadFrame, isDegenerate, edgeEvents, hstopped, hle, updDma, updBlock, hblock]

/-- An edge down stops the channel (43 R733). -/
theorem stopChannel_eq_edgeChannel {ch : Chan} {s : State} (hrunning : (dmaOf ch s.block).isRunning = true) :
    stopChannel ch s = { s with
      block := mapDma ch (edgeChannel false (latchedStart ch s.block) (latchedEnd ch s.block)) s.block } := by
  cases ch <;> simp_all [stopChannel, updDma, updBlock, edgeChannel]

/-- A run bit that says what the channel does already is no edge: it does not start a running channel anew (R402). -/
theorem edgeChannel_of_eq {run : Bool} {c : DmaChannel} (h : c.isRunning = run) (start stop : Addr) :
    edgeChannel run start stop c = c := by
  cases run <;> simp [edgeChannel, h]

theorem edgeEvents_of_eq {run : Bool} {c : DmaChannel} (h : c.isRunning = run) (ch : Chan) (start stop : Addr) :
    edgeEvents ch run start stop c = [] := by
  cases run <;> simp [edgeEvents, h]

/-- `RunEdge` changes the channel's record as `edgeChannel` says and records what `edgeEvents` says. -/
theorem runEdge_eq_edgeChannel (ch : Chan) (run : Bool) (s : State) :
    runEdge ch run s = { s with
      block := mapDma ch (edgeChannel run (latchedStart ch s.block) (latchedEnd ch s.block)) s.block
      events := s.events ++ edgeEvents ch run (latchedStart ch s.block) (latchedEnd ch s.block) (dmaOf ch s.block) } := by
  by_cases hr : (dmaOf ch s.block).isRunning = run
  · have hblock : mapDma ch (edgeChannel run (latchedStart ch s.block) (latchedEnd ch s.block)) s.block = s.block := by
      cases ch with
      | play => rw [mapDma_play, edgeChannel_of_eq (by exact hr)]
      | record => rw [mapDma_record, edgeChannel_of_eq (by exact hr)]
    rw [runEdge_of_eq hr, hblock, edgeEvents_of_eq hr, List.append_nil]
  · cases run with
    | true =>
      rw [Bool.not_eq_true] at hr
      rw [← startChannel_eq_edgeChannel hr, runEdge, hr]
      rfl
    | false =>
      rw [Bool.not_eq_false] at hr
      simp [runEdge, hr, stopChannel_eq_edgeChannel, edgeEvents]

/-- Settles O18: the edges of the two channels, PLAY first, then the flags. -/
theorem dmaControlWrite : Obligations.DmaControlWrite := by
  refine ⟨fun s d h => ?_, rfl, rfl, rfl, rfl, rfl⟩
  have hrun : exec (.wb01DmaControl d) s = .next (storeDmaControl d s) := whenReady_of_ready h.1 h.2 _
  rw [hrun, storeDmaControl]
  simp only [runEdge_eq_edgeChannel]
  rfl

/-! ### The recompute (42_clock_scheduler.md R608) -/

/-- `Recompute()` by the rules' own tables. -/
theorem recompute_eq_recomputed (p : Params) (b : Block) : recompute p b = recomputed p b := by
  rw [recompute, cyclesPerTick_eq_tableRate, cyclesPerTick_eq_tableRate, muted_eq_mutedByTable]
  rfl

/-- Settles O22: each write stores, decodes its fields and recomputes. -/
theorem recomputingWrites : Obligations.RecomputingWrites := by
  refine ⟨fun s d h => ?_, rfl, rfl, rfl, rfl, rfl, rfl⟩
  simp only [← recompute_eq_recomputed]
  exact ⟨whenReady_of_ready h.1 h.2 _, whenReady_of_ready h.1 h.2 _, whenReady_of_ready h.1 h.2 _⟩

/-! ### Frame addresses (R436, R437) -/

/-- `LatchStart()` with `A24` as 30_encoding.md R317 writes it. -/
theorem latchStart_eq_a24 (b : Block) : latchStart b = { b with
    latchedStartPlay := if b.dmaSelected then b.latchedStartPlay else a24 b.raw.startHi b.raw.startMid b.raw.startLo
    latchedStartRec := if b.dmaSelected then a24 b.raw.startHi b.raw.startMid b.raw.startLo else b.latchedStartRec } := by
  cases hsel : b.dmaSelected <;> simp [latchStart, selectedChan, hsel, rawStart, assembleAddr_eq_a24]

/-- `LatchEnd()` with `A24` as 30 R317 writes it. -/
theorem latchEnd_eq_a24 (b : Block) : latchEnd b = { b with
    latchedEndPlay := if b.dmaSelected then b.latchedEndPlay else a24 b.raw.endHi b.raw.endMid b.raw.endLo
    latchedEndRec := if b.dmaSelected then a24 b.raw.endHi b.raw.endMid b.raw.endLo else b.latchedEndRec } := by
  cases hsel : b.dmaSelected <;> simp [latchEnd, selectedChan, hsel, rawEnd, assembleAddr_eq_a24]

/-- Settles O19: the byte is stored before the latch is assembled from all three. -/
theorem frameAddressWritesLatch : Obligations.FrameAddressWritesLatch := by
  refine fun s d i r h => ⟨fun hi => ?_, fun hi => ?_⟩
  · rw [exec_of_mem_writes (f := latchStart) rfl h hi, latchStart_eq_a24]
  · rw [exec_of_mem_writes (f := latchEnd) rfl h hi, latchEnd_eq_a24]

/-! ### Operations in any order -/

theorem runAll_append (l m : List Instr) (s : State) : runAll (l ++ m) s = thenDo (runAll l s) (runAll m) := by
  induction l generalizing s with
  | nil => rfl
  | cons i rest ih =>
    rw [List.cons_append, runAll, runAll]
    cases exec i s with
    | next t => exact ih t
    | fault f => rfl
    | refused e => rfl

/-- Operations that commute two by two give the same in any order. -/
theorem runAll_perm {l m : List Instr} (hperm : l.Perm m)
    (hcomm : l.Pairwise (fun i j => ∀ s, runAll [i, j] s = runAll [j, i] s)) (s : State) : runAll l s = runAll m s := by
  induction hperm generalizing s with
  | nil => rfl
  | cons i _ ih => exact congrArg (thenDo (exec i s)) (funext (ih (List.pairwise_cons.1 hcomm).2))
  | swap i j rest =>
    have hji : runAll [j, i] s = runAll [i, j] s := (List.pairwise_cons.1 hcomm).1 i (.head _) s
    calc runAll (j :: i :: rest) s = thenDo (runAll [j, i] s) (runAll rest) := runAll_append [j, i] rest s
      _ = thenDo (runAll [i, j] s) (runAll rest) := by rw [hji]
      _ = runAll (i :: j :: rest) s := (runAll_append [i, j] rest s).symm
  | trans hlm _ ih ih' => exact (ih hcomm s).trans (ih' (hcomm.perm hlm fun h s => (h s).symm) s)

theorem thenDo_whenReady (s t : State) (k : State → Out) :
    thenDo (whenReady s (.next t)) k = whenReady s (k t) := by
  unfold whenReady
  split
  · rfl
  · split <;> rfl

theorem whenReady_whenReady (s : State) (k : Out) : whenReady s (whenReady s k) = whenReady s k := by
  unfold whenReady
  split
  · rfl
  · split <;> rfl

/-! ### The frame start in any order (R436) -/

/-- An operation that changes the register file by `f` and latches the frame start anew. -/
def LatchesStart (i : Instr) (f : RawRegs → RawRegs) : Prop :=
  ∀ s, exec i s = whenReady s (.next (updBlock latchStart (updRaw f s)))

theorem LatchesStart.runAll_pair {i j : Instr} {f g : RawRegs → RawRegs} (hi : LatchesStart i f) (hj : LatchesStart j g)
    (s : State) : runAll [i, j] s = whenReady s (.next (updBlock latchStart (updRaw (g ∘ f) s))) := by
  have hsecond (t : State) : runAll [j] t = whenReady t (.next (updBlock latchStart (updRaw g t))) := by
    rw [runAll, hj, thenDo_whenReady, runAll]
  have hready : whenReady (updBlock latchStart (updRaw f s)) = whenReady s := rfl
  rw [runAll, hi, thenDo_whenReady, hsecond, hready, whenReady_whenReady, latchStart_latchStart]
  rfl

/-- Where the changes of the register file commute, so do the operations: of two latches the last one stays. -/
theorem LatchesStart.comm {i j : Instr} {f g : RawRegs → RawRegs} (hi : LatchesStart i f) (hj : LatchesStart j g)
    (hfg : g ∘ f = f ∘ g) (s : State) : runAll [i, j] s = runAll [j, i] s := by
  rw [hi.runAll_pair hj, hj.runAll_pair hi, hfg]

/-- The three frame start bytes, in any order, leave the bytes stored and one latch. -/
theorem runAll_frameStartWrites {s : State} {h m l : Byte} {writes : List Instr} (hready : Ready s)
    (hperm : writes.Perm [.wb03FrameStartHi h, .wb05FrameStartMid m, .wb07FrameStartLo l]) :
    runAll writes s =
      .next (updBlock latchStart (updRaw (fun r => { r with startHi := h, startMid := m, startLo := l }) s)) := by
  have hhi : LatchesStart (.wb03FrameStartHi h) (fun r => { r with startHi := h }) := fun _ => rfl
  have hmid : LatchesStart (.wb05FrameStartMid m) (fun r => { r with startMid := m }) := fun _ => rfl
  have hlo : LatchesStart (.wb07FrameStartLo l) (fun r => { r with startLo := l }) := fun _ => rfl
  have hcomm : [.wb03FrameStartHi h, .wb05FrameStartMid m, .wb07FrameStartLo l].Pairwise
      (fun i j => ∀ s, runAll [i, j] s = runAll [j, i] s) := by
    simp [hhi.comm hmid rfl, hhi.comm hlo rfl, hmid.comm hlo rfl]
  rw [← runAll_perm hperm.symm hcomm]
  exact runAll_latchingWrites latchStart_latchStart hready hhi hmid hlo

/-! ### The read-back (41_register_read.md R505) -/

theorem addrHi_assembleAddr (h m l : Byte) : addrHi (assembleAddr h m l) = h := by
  rw [assembleAddr_eq_append, addrHi, BitVec.extractLsb'_append_eq_of_le (by decide)]
  exact BitVec.extractLsb'_append_eq_left

theorem addrMid_assembleAddr (h m l : Byte) : addrMid (assembleAddr h m l) = m := by
  rw [assembleAddr_eq_append, addrMid, BitVec.extractLsb'_append_eq_of_le (by decide)]
  exact BitVec.extractLsb'_append_eq_right

theorem addrLo_assembleAddr (h m l : Byte) : addrLo (assembleAddr h m l) = l &&& 0xFE#8 := by
  rw [assembleAddr_eq_append, addrLo, BitVec.extractLsb'_append_eq_right]

/-- While the selected channel is stopped, its live address right after a latch is the address of the stored bytes. -/
theorem liveAddress_latchStart {b : Block} (hstop : (if b.dmaSelected then b.recDma else b.playDma).isRunning = false) :
    liveAddress (latchStart b) = rawStart b.raw := by
  cases hsel : b.dmaSelected <;> simp_all [liveAddress, latchStart, selectedChan]

theorem runAll_of_returnByte {i : Instr} {v : Byte} {s : State} (h : Ready s) (hi : exec i s = returnByte v s)
    (rest : List Instr) : runAll (i :: rest) s = runAll rest (giveResult (.byte v) s) := by
  rw [runAll, hi, returnByte, whenReady_of_ready h.1 h.2, thenDo]

/-- The three frame-count reads return the bytes of one live address: no read changes the block. -/
theorem runAll_frameCountReads {s : State} (h : Ready s) :
    runAll [.rb09FrameCountHi, .rb0BFrameCountMid, .rb0DFrameCountLo] s = .next { s with
      results := s.results ++ [.byte (addrHi (liveAddress s.block)), .byte (addrMid (liveAddress s.block)),
        .byte (addrLo (liveAddress s.block))] } := by
  have keeps {u : State} (hu : Ready u) (v : Result) : Ready (giveResult v u) := hu
  rw [runAll_of_returnByte h rfl, runAll_of_returnByte (keeps h _) rfl, runAll_of_returnByte (keeps (keeps h _) _) rfl,
    runAll]
  simp [giveResult]

/-- Settles O20: the three writes commute, and the latch they leave is what a stopped channel reads back. -/
theorem frameStartInAnyOrder : Obligations.FrameStartInAnyOrder := by
  intro s h m l writes hready hperm
  have hwrites := runAll_frameStartWrites hready hperm
  refine ⟨_, hwrites, fun hsel => ?_, fun hsel => ?_, fun hstop => ?_⟩
  · simp [latchStart_eq_a24, hsel]
  · simp [latchStart_eq_a24, hsel]
  · have hlive := liveAddress_latchStart
      (b := { s.block with raw := { s.block.raw with startHi := h, startMid := m, startLo := l } }) hstop
    have hkept : Ready (updBlock latchStart
        (updRaw (fun r => { r with startHi := h, startMid := m, startLo := l }) s)) := hready
    rw [runAll_frameCountReads hkept, updBlock_block, updRaw_block, hlive, rawStart, addrHi_assembleAddr,
      addrMid_assembleAddr, addrLo_assembleAddr]

/-! ### The selectors (R414 to R420) -/

theorem exec_sourceWrite {s : State} {d : Byte} {i : Instr} {r : RawRegs} (h : Ready s)
    (hi : (i, r) ∈ sourceWrites d s.block.raw) :
    exec i s = .next { s with block := decodeSrc s.params.layout { s.block with raw := r } } :=
  exec_of_mem_writes rfl h hi

theorem exec_destinationWrite {s : State} {d : Byte} {i : Instr} {r : RawRegs} (h : Ready s)
    (hi : (i, r) ∈ destinationWrites d s.block.raw) :
    exec i s = .next { s with block := decodeDst s.params.layout { s.block with raw := r } } :=
  exec_of_mem_writes rfl h hi

/-- In a good image every decoded field is the decode of the stored bytes. -/
theorem redecode_of_imageOk {p : Params} {b : Block} (h : imageOk p b = true) : redecode p.layout b = b := by
  simp only [imageOk, decodedOk, Bool.and_eq_true, beq_iff_eq] at h
  obtain ⟨⟨⟨⟨⟨-, hdecoded⟩, -⟩, -⟩, -⟩, -⟩ := h
  exact hdecoded

/-- Decoding a selector again after every decode changes nothing: the stored bytes are the same. -/
theorem decode_redecode (l : Layout) (b : Block) :
    decodeSrc l (redecode l b) = redecode l b ∧ decodeDst l (redecode l b) = redecode l b := by
  constructor <;> simp only [redecode, decodeRecTracks, decodeIntDivider, decodeSoundMode, decodeTrackControl,
    decodeDmaControl, decodeIntEnable, decodeDst, decodeSrc, decodeHandshake]

theorem decodeSrc_of_imageOk {p : Params} {b : Block} (h : imageOk p b = true) : decodeSrc p.layout b = b := by
  obtain ⟨hsrc, -⟩ := decode_redecode p.layout b
  rwa [redecode_of_imageOk h] at hsrc

theorem decodeDst_of_imageOk {p : Params} {b : Block} (h : imageOk p b = true) : decodeDst p.layout b = b := by
  obtain ⟨-, hdst⟩ := decode_redecode p.layout b
  rwa [redecode_of_imageOk h] at hdst

theorem getLsbD_joinBytes_low {i : Nat} (hi : i < 8) (h l : Byte) : (joinBytes h l).getLsbD i = l.getLsbD i := by
  rw [joinBytes, BitVec.getLsbD_append, if_pos hi]

theorem extractLsb'_joinBytes_low {i n : Nat} (hi : i + n ≤ 8) (h l : Byte) :
    (joinBytes h l).extractLsb' i n = l.extractLsb' i n := BitVec.extractLsb'_append_eq_of_add_le hi

theorem extractLsb'_joinBytes_high {i n : Nat} (hi : 8 ≤ i) (h l : Byte) :
    (joinBytes h l).extractLsb' i n = h.extractLsb' (i - 8) n := BitVec.extractLsb'_append_eq_of_le hi

/-- In the default layout the decoded fields of `S` stand in its low byte (R414). -/
theorem decodeSrc_srcHi (d : Byte) (b : Block) :
    decodeSrc defaultLayout { b with raw := { b.raw with srcHi := d } } =
      { decodeSrc defaultLayout b with raw := { b.raw with srcHi := d } } := by
  simp (disch := decide) only [decodeSrc, decodeHandshake, playGate, srcPlayOtherDest, srcPlayHandshakeOff,
    srcDspTxClock, srcPlayClock, srcDspTxConnect, srcDspTxHandshakeOff, srcWord, dstWord, getLsbD_joinBytes_low,
    extractLsb'_joinBytes_low]

/-- In the default layout the decoded fields of `D` stand in its low byte, but for the DAC source (R418). -/
theorem decodeDst_dstHi (d : Byte) (b : Block) :
    decodeDst defaultLayout { b with raw := { b.raw with dstHi := d } } =
      { decodeDst defaultLayout b with
        raw := { b.raw with dstHi := d }
        playDma := { (decodeDst defaultLayout b).playDma with connectedToCodec := d.extractLsb' 5 2 == 0b00#2 }
        dspTx := { (decodeDst defaultLayout b).dspTx with connectedToCodec := d.extractLsb' 5 2 == 0b01#2 }
        adc := { (decodeDst defaultLayout b).adc with connectedToCodec := d.extractLsb' 5 2 == 0b11#2 } } := by
  simp (disch := decide) only [decodeDst, decodeHandshake, playGate, recordHandshake, dstDacSource, dstDspRxSource,
    dstRecSource, dstRecOtherSource, dstRecHandshakeOff, dstDspRxConnect, dstDspRxHandshakeOff, srcWord, dstWord,
    getLsbD_joinBytes_low, extractLsb'_joinBytes_low, extractLsb'_joinBytes_high]
  rfl

/-- Settles O23: by the decode of `S`; the high byte holds none of its fields, and under the invariant the decode of the
rest is what the block has. -/
theorem sourceSelectorWrites : Obligations.SourceSelectorWrites := by
  refine ⟨fun s d i r h hi => exec_sourceWrite h hi, ⟨rfl, rfl, rfl, rfl, rfl, rfl⟩, fun s d h hinv hl => ?_⟩
  have hdecoded : decodeSrc defaultLayout s.block = s.block := hl ▸ decodeSrc_of_imageOk (hinv.2 h.2)
  rw [exec_sourceWrite h (d := d) (.head _), hl, decodeSrc_srcHi, hdecoded]

/-- Settles O24: by the decode of `D`; the high byte holds only the DAC source, and under the invariant the decode of the
rest is what the block has. -/
theorem destinationSelectorWrites : Obligations.DestinationSelectorWrites := by
  refine ⟨fun s d i r h hi => exec_destinationWrite h hi, ⟨rfl, rfl, rfl, rfl, rfl, rfl, rfl, rfl, rfl, rfl⟩,
    fun s d h hinv hl => ?_⟩
  have hdecoded : decodeDst defaultLayout s.block = s.block := hl ▸ decodeDst_of_imageOk (hinv.2 h.2)
  rw [exec_destinationWrite h (d := d) (.head _), hl, decodeDst_dstHi, hdecoded]

end Sys2Proof.Machine

/-! PROOFS. The claims of 41_register_read.md: what each byte read returns, and that no bus read changes the block. -/

namespace Sys2Proof.Machine

/-! ### What each byte read returns -/

/-- Where the machine is ready, a byte read records the byte it returns and does nothing else (R500). -/
theorem returnByte_of_ready {s : State} (h : Ready s) (v : Byte) :
    returnByte v s = .next { s with results := s.results ++ [.byte v] } :=
  whenReady_of_ready h.1 h.2 _

/-- Each read of a stored byte returns the byte `storedReads` has beside it (R501 to R526). -/
theorem exec_of_mem_storedReads {s : State} {i : Instr} {v : Byte} (hi : (i, v) ∈ storedReads s.block.raw) :
    exec i s = returnByte v s := by
  have hreads : (storedReads s.block.raw).map (fun p => exec p.1 s) =
      (storedReads s.block.raw).map (fun p => returnByte p.2 s) := rfl
  exact List.map_inj_left.1 hreads _ hi

/-- Settles O26: by the table of the stored bytes. -/
theorem storedByteReads : Obligations.StoredByteReads := by
  intro s i v h hi
  rw [exec_of_mem_storedReads hi, returnByte_of_ready h]

theorem dmaOf_selectedChan (b : Block) :
    dmaOf (selectedChan b) b = if b.dmaSelected then b.recDma else b.playDma := by
  cases hsel : b.dmaSelected <;> simp [selectedChan, hsel]

theorem latchedStart_selectedChan (b : Block) :
    latchedStart (selectedChan b) b = if b.dmaSelected then b.latchedStartRec else b.latchedStartPlay := by
  cases hsel : b.dmaSelected <;> simp [selectedChan, hsel]

/-- Settles O27: the three reads return the bytes of `LiveAddress()`, whose channel is the selected one. -/
theorem liveAddressReads : Obligations.LiveAddressReads := by
  intro s h c latched a
  have hlive : liveAddress s.block = a := by
    rw [liveAddress, dmaOf_selectedChan, latchedStart_selectedChan, effectiveAddr]
  rw [← hlive]
  exact ⟨returnByte_of_ready h _, returnByte_of_ready h _, returnByte_of_ready h _⟩

/-- Settles O28: both reads return `codecStatus`. -/
theorem codecStatusReadsZero : Obligations.CodecStatusReadsZero :=
  fun _ h => ⟨returnByte_of_ready h codecStatus, returnByte_of_ready h codecStatus⟩

/-- Settles O29: each of the 37 reads is the one read that returns a draw. -/
theorem unassignedReadsAreDraws : Obligations.UnassignedReadsAreDraws := by
  intro s i h hi
  have hdraw : ∀ i ∈ unassignedReads, exec i s = returnDraw s := List.map_eq_replicate_iff.1 rfl
  rw [hdraw i hi, returnDraw, whenReady_of_ready h.1 h.2]
  rfl

/-! ### No bus read changes the block (R500) -/

/-- A byte read of a row changes only the count of draws. -/
theorem rowRead_frame (row : Offset) (s : State) : ∃ n, rowRead row s = { s with draws := n } := by
  by_cases ha : isAssigned row = true
  · exact ⟨s.draws, if_pos ha⟩
  · exact ⟨s.draws + 1, if_neg ha⟩

/-- A word read is two byte reads, and a long read two word reads: they too change only the count of draws. -/
theorem regReadWord_frame (o : Offset) (s : State) : ∃ n, regReadWord o s = { s with draws := n } := by
  obtain ⟨k, hk⟩ := regRead_frame o s
  obtain ⟨n, hn⟩ := regRead_frame (o + 1) { s with draws := k }
  exact ⟨n, by rw [regReadWord, hk, hn]⟩

theorem regReadLong_frame (o : Offset) (s : State) : ∃ n, regReadLong o s = { s with draws := n } := by
  obtain ⟨k, hk⟩ := regReadWord_frame o s
  obtain ⟨n, hn⟩ := regReadWord_frame (o + 2) { s with draws := k }
  exact ⟨n, by rw [regReadLong, hk, hn]⟩

/-- A bus read is an operation of class 0 (30 R330). -/
theorem isBusRead_iff_descClass (i : Instr) : isBusRead i = true ↔ descClass (encode 0 defaultLayout i).1 = 0 :=
  beq_iff_eq

/-- The bus reads are the byte read of every row and the word and long reads: every write is of class 1 and every
event of class 2. -/
theorem isBusRead_cases {i : Instr} (h : isBusRead i = true) :
    (∃ row, i = byteReadForm row) ∨ (∃ o, i = .rwEven o) ∨ (∃ o, i = .rwOdd o) ∨ (∃ o, i = .rlEven o) ∨
      ∃ o, i = .rlOdd o := by
  rw [isBusRead_iff_descClass] at h
  have write {size : BitVec 2} {a : Addr} : descClass (busDescriptor 1 size a) ≠ 0 := by
    rw [descClass_bus]
    decide
  have event {code : BitVec 8} : descClass (eventDescriptor code) ≠ 0 := by
    rw [descClass_event]
    decide
  induction i using instr_byForms with
  | byteRead row => exact .inl ⟨row, rfl⟩
  | rwEven o => exact .inr (.inl ⟨o, rfl⟩)
  | rwOdd o => exact .inr (.inr (.inl ⟨o, rfl⟩))
  | rlEven o => exact .inr (.inr (.inr (.inl ⟨o, rfl⟩)))
  | rlOdd o => exact .inr (.inr (.inr (.inr ⟨o, rfl⟩)))
  | byteWrite row d =>
    rw [encode_byteWriteForm] at h
    exact absurd h write
  | wwEven o d | wwOdd o d | wlEven o d | wlOdd o d => exact absurd h write
  | fireA e | fireB e | fsoPlay | fsoRec | drain mix | mic l | resetCold | resetWarm | capture | restore b =>
    exact absurd h event

/-- Settles O31: a read that completes gives a result after one, two or four byte reads, and each of these changes the
count of draws alone. -/
theorem readsChangeNoState : Obligations.ReadsChangeNoState := by
  intro s t i hread h
  have result {u : State} {r : Result} (hframe : ∃ n, u = { s with draws := n })
      (hnext : Host.Outcome.next (giveResult r u) = (.next t : Out)) :
      ∃ n r, t = { s with draws := n, results := s.results ++ [r] } := by
    obtain ⟨n, rfl⟩ := hframe
    exact ⟨n, r, (Host.Outcome.next.inj hnext).symm⟩
  obtain ⟨row, rfl⟩ | ⟨o, rfl⟩ | ⟨o, rfl⟩ | ⟨o, rfl⟩ | ⟨o, rfl⟩ := isBusRead_cases hread
  · rw [exec_byteReadForm] at h
    obtain ⟨-, -, hnext⟩ := whenReady_next h
    exact result (rowRead_frame row s) hnext
  · exact result (regReadWord_frame o s) (wideAccess_next h)
  · exact absurd h (refuseMisaligned_ne_next s t)
  · exact result (regReadLong_frame o s) (wideAccess_next h)
  · exact absurd h (refuseMisaligned_ne_next s t)

end Sys2Proof.Machine

/-! PROOFS. The claims of 42_clock_scheduler.md: what a fire runs and schedules (R610, R613 to R615), that no fire
schedules a delay of 0 (R611), that the delays do not drift (R612), and who changes the clock (R609). -/

namespace Sys2Proof.Machine

/-! ### What the sub-flows leave of the clock -/

/-- What a recompute writes: the two oscillators and the mute. -/
def clockState (b : Block) : Osc × Osc × Bool := (b.oscA, b.oscB, b.isDacMuted)

/-- No sub-flow of a fire reaches the clock: it lies in the part of the block that none of them changes. -/
theorem clockState_of_tickFrame {s t : State} (h : TickFrame s t) : clockState t.block = clockState s.block :=
  (congrArg clockState h.fixed :)

theorem epoch_of_tickFrame {s t : State} (h : TickFrame s t) : t.block.epoch = s.block.epoch :=
  (congrArg Block.epoch h.fixed :)

theorem oscOf_of_clockState {b c : Block} (h : clockState b = clockState c) (x : OscId) : oscOf x b = oscOf x c := by
  simp only [clockState, Prod.mk.injEq] at h
  obtain ⟨ha, hb, -⟩ := h
  cases x <;> assumption

/-! ### A fire (R613 to R615) -/

/-- A fire with another epoch's tag is acknowledged and over (R615). -/
theorem fire_stale {x : OscId} {subflows : State → State} {e : Nat} {s : State} (he : e ≠ s.block.epoch) :
    fire x subflows e s = .ok (emit .acknowledge s) := if_neg he

/-- A current fire of oscillator `x`, when the next one can be scheduled (R610). -/
def fired (x : OscId) (subflows : State → State) (s : State) : State :=
  emit (.scheduleRelative (oscDelay (oscOf x s.block)).toNat x s.block.epoch)
    (updBlock (setOsc x (oscNext (oscOf x s.block))) (subflows (emit .acknowledge s)))

/-- A current fire schedules by the oscillator as it was before the sub-flows, which leave it alone. -/
theorem fire_current {x : OscId} {subflows : State → State} (hsub : ∀ u, TickFrame u (subflows u)) (s : State) :
    fire x subflows s.block.epoch s =
      if oscDelay (oscOf x s.block) < 1 then .error .zeroDelay else .ok (fired x subflows s) := by
  have hframe := (tickFrame_emit .acknowledge s).trans (hsub _)
  rw [fire, if_pos rfl, scheduleNext, oscOf_of_clockState (clockState_of_tickFrame hframe), epoch_of_tickFrame hframe, fired]

/-- All that a fire which is not refused can do. -/
theorem fire_ok {x : OscId} {subflows : State → State} (hsub : ∀ u, TickFrame u (subflows u)) {e : Nat} {s t : State}
    (h : fire x subflows e s = .ok t) :
    e ≠ s.block.epoch ∧ t = emit .acknowledge s ∨
      e = s.block.epoch ∧ 1 ≤ oscDelay (oscOf x s.block) ∧ t = fired x subflows s := by
  by_cases he : e = s.block.epoch
  · subst he
    rw [fire_current hsub] at h
    split at h
    · cases h
    · next hd => exact .inr ⟨rfl, by omega, (Except.ok.inj h).symm⟩
  · rw [fire_stale he] at h
    exact .inl ⟨he, (Except.ok.inj h).symm⟩

/-- How a ready machine answers the fires of an oscillator, by tag and delay. -/
structure FireEnds (x : OscId) (subflows : State → State) (fireOf : Nat → Instr) (s : State) : Prop where
  next : 1 ≤ oscDelay (oscOf x s.block) → exec (fireOf s.block.epoch) s = .next (fired x subflows s)
  refused : oscDelay (oscOf x s.block) < 1 → exec (fireOf s.block.epoch) s = .refused .zeroDelay
  stale : ∀ e, e ≠ s.block.epoch → exec (fireOf e) s = .next (emit .acknowledge s)

theorem FireEnds.of_fire {x : OscId} {subflows : State → State} {fireOf : Nat → Instr} {s : State}
    (hsub : ∀ u, TickFrame u (subflows u)) (hexec : ∀ e, exec (fireOf e) s = finish (fire x subflows e s)) :
    FireEnds x subflows fireOf s where
  next hd := by rw [hexec, fire_current hsub, if_neg (by omega), finish_ok]
  refused hd := by rw [hexec, fire_current hsub, if_pos hd, finish_error]
  stale e he := by rw [hexec, fire_stale he, finish_ok]

theorem fireA_ends {s : State} (h : Ready s) : FireEnds .a fireASubflows .fireA s :=
  .of_fire tickFrame_fireASubflows fun _ => whenReady_of_ready h.1 h.2 _

theorem fireB_ends {s : State} (h : Ready s) : FireEnds .b fireBSubflows .fireB s :=
  .of_fire tickFrame_fireBSubflows fun _ => whenReady_of_ready h.1 h.2 _

/-- Settles O14: a stale fire is over after its acknowledgement. -/
theorem staleFiresOnlyAcknowledge : Obligations.StaleFiresOnlyAcknowledge :=
  fun _ e h he => ⟨(fireA_ends h).stale e he, (fireB_ends h).stale e he⟩

theorem isLegacy_iff (b : Block) : isLegacy b = true ↔ b.internalFrequencyDivider = 0 := beq_iff_eq

/-- The sub-flows of a `FIRE_A`, each under the condition it runs on; the ADC's under none (R613, R617). -/
theorem fireASubflows_eq (s : State) :
    fireASubflows s =
      let s1 := if s.block.internalFrequencyDivider = 0 ∨ s.block.dspXmitFreqSel = s.params.layout.clockA then dspXmitTick s
        else s
      let s2 := if s.block.internalFrequencyDivider = 0 ∨ s.block.dmaPlayFreqSel = s.params.layout.clockA then dmaPlayTick s1
        else s1
      adcTick s2 := by
  unfold fireASubflows
  by_cases hl : s.block.internalFrequencyDivider = 0
  · simp only [if_pos ((isLegacy_iff _).2 hl), hl, true_or, if_true]
  · simp only [if_neg (mt (isLegacy_iff _).1 hl), hl, false_or]

/-- The sub-flows of a `FIRE_B`, each under the condition it runs on (R614). -/
theorem fireBSubflows_eq (s : State) :
    fireBSubflows s =
      let s1 := if s.block.internalFrequencyDivider ≠ 0 ∧ s.block.dspXmitFreqSel = s.params.layout.clockB then dspXmitTick s
        else s
      if s.block.internalFrequencyDivider ≠ 0 ∧ s.block.dmaPlayFreqSel = s.params.layout.clockB then dmaPlayTick s1
        else s1 := by
  unfold fireBSubflows
  by_cases hl : s.block.internalFrequencyDivider = 0
  · simp only [if_pos ((isLegacy_iff _).2 hl), hl, ne_eq, not_true, false_and, if_false]
  · simp only [if_neg (mt (isLegacy_iff _).1 hl), ne_eq, hl, not_false_iff, true_and]

/-- Settles O36: a fire of A with the sub-flows written out. -/
theorem fireARunsWhatItClocks : Obligations.FireARunsWhatItClocks := by
  intro s h o n s0 s1 s2 s3
  have hsub : fireASubflows s0 = s3 := fireASubflows_eq s0
  rw [← hsub]
  exact ⟨(fireA_ends h).next, (fireA_ends h).refused, (fireA_ends h).stale, rfl⟩

/-- Settles O37: a fire of B with the sub-flows written out. -/
theorem fireBRunsWhatItClocks : Obligations.FireBRunsWhatItClocks := by
  intro s h o n s0 s1 s2
  have hsub : fireBSubflows s0 = s2 := fireBSubflows_eq s0
  rw [← hsub]
  exact ⟨(fireB_ends h).next, (fireB_ends h).refused, (fireB_ends h).stale, rfl⟩

/-! ### The sub-flows schedule nothing -/

theorem delays_append (x : OscId) (l m : List Event) : delays x (l ++ m) = delays x l ++ delays x m :=
  List.filterMap_append

theorem delays_schedule (x : OscId) (d e : Nat) : delays x [.scheduleRelative d x e] = [d] := by simp [delays]

/-- From `s` to `t` no delay is scheduled. -/
def NoSchedule (s t : State) : Prop := ∀ x, delays x t.events = delays x s.events

theorem NoSchedule.of_events {s t : State} (h : t.events = s.events) : NoSchedule s t := fun x => congrArg (delays x) h

theorem NoSchedule.refl (s : State) : NoSchedule s s := .of_events rfl

theorem NoSchedule.trans {s t u : State} (h : NoSchedule s t) (k : NoSchedule t u) : NoSchedule s u :=
  fun x => (k x).trans (h x)

theorem NoSchedule.ite (c : Prop) [Decidable c] {s t u : State} (h : NoSchedule s t) (k : NoSchedule s u) :
    NoSchedule s (if c then t else u) := by split <;> assumption

/-- An event that is no schedule adds no delay. -/
theorem noSchedule_emit {e : Event} (s : State) (he : ∀ x, delays x [e] = []) : NoSchedule s (emit e s) := fun x => by
  rw [emit_events, delays_append, he, List.append_nil]

theorem noSchedule_memRead (a : Addr) (s : State) : NoSchedule s (memRead a s) := by
  unfold memRead
  split
  · exact noSchedule_emit s fun _ => rfl
  · exact noSchedule_emit (countDraw s) fun _ => rfl

theorem noSchedule_memWrite (a : Addr) (v : Byte) (s : State) : NoSchedule s (memWrite a v s) :=
  noSchedule_emit { s with memory := memInsert s.memory a.toNat v } fun _ => rfl

theorem noSchedule_readPlaySample (a : Addr) (s : State) : NoSchedule s (readPlaySample a s) :=
  .ite _ ((noSchedule_memRead a s).trans (noSchedule_memRead _ _)) (noSchedule_memRead a s)

theorem noSchedule_dspReadTx (s : State) : NoSchedule s (dspReadTx s) := by
  unfold dspReadTx
  split
  · exact noSchedule_emit (countDraw s) fun _ => rfl
  · exact noSchedule_emit { s with dspWords := s.dspWords.tail } fun _ => rfl

theorem noSchedule_loadFrame (ch : Chan) (s : State) : NoSchedule s (loadFrame ch s) :=
  .ite _ (noSchedule_emit (updBlock (loadBounds ch) s) fun _ => rfl) (.of_events rfl)

theorem noSchedule_endOfFrame (ch : Chan) (s : State) : NoSchedule s (endOfFrame ch s) := by
  have pulse (enabled path) (u : State) : NoSchedule u (pulseIrq enabled path u) :=
    .ite _ (noSchedule_emit u fun _ => rfl) (.refl u)
  exact ((pulse _ _ s).trans (pulse _ _ _)).trans (.ite _ (noSchedule_loadFrame ch _) (.of_events rfl))

theorem noSchedule_advanceChannel (ch : Chan) (inc : Nat) (s : State) : NoSchedule s (advanceChannel ch inc s) :=
  .ite _ (noSchedule_endOfFrame ch (updDma ch _ s)) (.of_events rfl)

theorem noSchedule_dmaRecordSink (v : Sample) (s : State) : NoSchedule s (dmaRecordSink v s) :=
  .ite _ (.refl s) ((NoSchedule.ite _ ((noSchedule_memWrite _ _ s).trans (noSchedule_memWrite _ _ _))
    (noSchedule_memWrite _ _ s)).trans (noSchedule_advanceChannel _ _ _))

theorem noSchedule_fanOut (toDma toCodec toDsp : Bool) (v vdac : Sample) (slot : Nat) (frame : Bool) (s : State) :
    NoSchedule s (fanOut toDma toCodec toDsp v vdac slot frame s) := by
  have dac (u : State) : NoSchedule u (dacSink vdac slot u) := .ite _ (.of_events rfl) (.ite _ (.of_events rfl) (.refl u))
  have rx (u : State) : NoSchedule u (dspRxSink v frame u) := .ite _ (.refl u)
    (((noSchedule_emit u fun _ => rfl).trans (noSchedule_emit _ fun _ => rfl)).trans (noSchedule_emit _ fun _ => rfl))
  have toRecord := NoSchedule.ite (toDma = true) (noSchedule_dmaRecordSink v s) (.refl s)
  exact (toRecord.trans (.ite (toCodec = true) (dac _) (.refl _))).trans (.ite (toDsp = true) (rx _) (.refl _))

theorem noSchedule_dmaPlayMove (s : State) : NoSchedule s (dmaPlayMove s) :=
  ((noSchedule_readPlaySample _ s).trans (noSchedule_fanOut _ _ _ _ _ _ _ _)).trans (noSchedule_advanceChannel _ _ _)

theorem noSchedule_dmaPlayTick (s : State) : NoSchedule s (dmaPlayTick s) :=
  .ite _ (.refl s) (.ite _ (noSchedule_dmaPlayMove s) (.ite _ (.refl s) (noSchedule_dmaPlayMove (updDma .play _ s))))

theorem noSchedule_dspXmitTick (s : State) : NoSchedule s (dspXmitTick s) := by
  have handshake : NoSchedule s (dspXmitHandshake s) := .ite _ (.refl s)
    ((noSchedule_dspReadTx (updDma .record _ s)).trans (noSchedule_dmaRecordSink _ _))
  exact .ite _ (.refl s) (.ite _ handshake ((((noSchedule_emit s fun _ => rfl).trans (noSchedule_emit _ fun _ => rfl)).trans
    (noSchedule_dspReadTx _)).trans (noSchedule_fanOut _ _ _ _ _ _ _ _)))

theorem noSchedule_adcTick (s : State) : NoSchedule s (adcTick s) :=
  noSchedule_fanOut _ _ _ _ _ _ _ (updBlock (advanceAdcRead s.params.adcCap) s)

/-- What a current fire of oscillator `x` runs. -/
def subflowsOf (x : OscId) : State → State :=
  match x with
  | .a => fireASubflows
  | .b => fireBSubflows

theorem tickFrame_subflowsOf (x : OscId) (s : State) : TickFrame s (subflowsOf x s) := by
  cases x
  · exact tickFrame_fireASubflows s
  · exact tickFrame_fireBSubflows s

/-- Every fire is `fire`, of one of the oscillators. -/
theorem exec_of_isFire {i : Instr} (hi : isFire i = true) :
    ∃ x e, ∀ s, exec i s = whenReady s (finish (fire x (subflowsOf x) e s)) := by
  unfold isFire at hi
  split at hi
  · exact ⟨.a, _, fun _ => rfl⟩
  · exact ⟨.b, _, fun _ => rfl⟩
  · cases hi

theorem noSchedule_subflowsOf (x : OscId) (s : State) : NoSchedule s (subflowsOf x s) := by
  have xmit (c : Prop) [Decidable c] := NoSchedule.ite c (noSchedule_dspXmitTick s) (.refl s)
  have play (c : Prop) [Decidable c] (u : State) := NoSchedule.ite c (noSchedule_dmaPlayTick u) (.refl u)
  cases x with
  | a =>
    rw [subflowsOf, fireASubflows_eq]
    exact ((xmit _).trans (play _ _)).trans (noSchedule_adcTick _)
  | b =>
    rw [subflowsOf, fireBSubflows_eq]
    exact (xmit _).trans (play _ _)

/-! ### Ticks of one oscillator (R610) -/

theorem tickOf_eq (x : OscId) (s : State) :
    tickOf x s = whenReady s (finish (fire x (subflowsOf x) s.block.epoch s)) := by cases x <;> rfl

/-- A current fire that completes moves its oscillator on and schedules one delay, of a cycle or more. -/
theorem tickOf_next {x : OscId} {s t : State} (h : tickOf x s = .next t) :
    1 ≤ oscDelay (oscOf x s.block) ∧ oscOf x t.block = oscNext (oscOf x s.block) ∧
      ∃ l, t.events = s.events ++ l ∧ delays x l = [(oscDelay (oscOf x s.block)).toNat] := by
  rw [tickOf_eq] at h
  obtain ⟨-, -, h⟩ := whenReady_next h
  obtain ⟨hne, -⟩ | ⟨-, hd, rfl⟩ := fire_ok (tickFrame_subflowsOf x) (finish_next.1 h)
  · exact absurd rfl hne
  · obtain ⟨l, hl⟩ := ((tickFrame_emit .acknowledge s).trans (tickFrame_subflowsOf x _)).events
    have hquiet := ((noSchedule_emit s fun _ => rfl).trans (noSchedule_subflowsOf x (emit .acknowledge s))) x
    rw [hl, delays_append, List.append_right_eq_self] at hquiet
    refine ⟨hd, oscOf_setOsc_same _ _ _, _, by rw [fired, emit_events, updBlock_events, hl, List.append_assoc], ?_⟩
    rw [delays_append, hquiet, delays_schedule, List.nil_append]

theorem iterate_oscNext (n : Nat) (o : Osc) :
    (oscNext^[n] o).cpt = o.cpt ∧ (oscNext^[n] o).acc = (fun a => fadd a o.cpt)^[n] o.acc := by
  induction n with
  | zero => exact ⟨rfl, rfl⟩
  | succ n ih =>
    obtain ⟨hcpt, hacc⟩ := ih
    rw [Function.iterate_succ_apply', Function.iterate_succ_apply']
    exact ⟨hcpt, by rw [oscNext, hacc, hcpt]⟩

/-- Fires in a row: the oscillator has moved on as often, and the sum of the delays telescopes. -/
theorem ticksOf_next {x : OscId} {n : Nat} {s t : State} (h : ticksOf x n s = .next t) :
    oscOf x t.block = oscNext^[n] (oscOf x s.block) ∧
      ∃ l, t.events = s.events ++ l ∧ (delays x l).length = n ∧
        ((delays x l).sum : Int) = (oscOf x t.block).consumed - (oscOf x s.block).consumed := by
  induction n generalizing s with
  | zero =>
    obtain rfl := Host.Outcome.next.inj h
    exact ⟨rfl, [], by simp [delays]⟩
  | succ n ih =>
    rw [ticksOf] at h
    cases htick : tickOf x s with
    | next u =>
      rw [htick] at h
      obtain ⟨hd, hosc, l, hl, hdelay⟩ := tickOf_next htick
      obtain ⟨hosc', m, hm, hlen, hsum⟩ := ih h
      have hconsumed : (oscOf x u.block).consumed = (oscOf x s.block).consumed + oscDelay (oscOf x s.block) := by
        rw [hosc, oscDelay, add_sub_cancel]
        rfl
      refine ⟨by rw [hosc', hosc, Function.iterate_succ_apply], l ++ m, by rw [hm, hl, List.append_assoc], ?_, ?_⟩
      · rw [delays_append, hdelay, List.length_append, hlen, List.length_singleton, Nat.add_comm]
      · rw [delays_append, hdelay, List.singleton_append, List.sum_cons]
        omega
    | fault f | refused e => rw [htick] at h; cases h

/-! ### The rounding of the accumulator (R612) -/

/-- Adding a value that is not negative `n` times from 0, while the sum stays below `2 ^ (53 + e)` units: each addition is
off by at most half of `2 ^ e` units. -/
theorem iterate_fadd_error {c : Binary64} {e : Nat} (he : e ≤ 2044) (hc : f64IsFinite c = true) (hc0 : 0 ≤ f64Units c)
    (n : Nat) (h : 2 * (n * f64Units c) + n * 2 ^ e < 2 * (2 ^ 53 * 2 ^ e)) :
    f64IsFinite ((fun a => fadd a c)^[n] f64Zero) = true ∧ 0 ≤ f64Units ((fun a => fadd a c)^[n] f64Zero) ∧
      2 * |f64Units ((fun a => fadd a c)^[n] f64Zero) - n * f64Units c| ≤ n * 2 ^ e := by
  have hpow : (0 : Int) < 2 ^ e := by positivity
  induction n with
  | zero =>
    have hz : f64IsFinite f64Zero = true ∧ f64Units f64Zero = 0 := by decide
    simp [hz.1, hz.2]
  | succ n ih =>
    push_cast [add_mul, one_mul] at h ⊢
    obtain ⟨hfin, h0, herr⟩ := ih (by omega)
    rw [Function.iterate_succ_apply']
    generalize (fun a => fadd a c)^[n] f64Zero = acc at hfin h0 herr
    have hle := le_abs_self (f64Units acc - n * f64Units c)
    obtain ⟨hfin', h0', hstep⟩ := fadd_error he hfin hc h0 hc0 (by omega)
    have htri := abs_sub_le (f64Units (fadd acc c)) (f64Units acc + f64Units c) (n * f64Units c + f64Units c)
    rw [add_sub_add_right_eq_sub] at htri
    exact ⟨hfin', h0', by omega⟩

/-- Less than one cycle apart, the floors are at most one apart. -/
theorem floor_sub_floor_le {a b u : Int} (hu : 0 < u) (h : |a - b| < u) : |a / u - b / u| ≤ 1 := by
  obtain ⟨h1, h2⟩ := abs_lt.1 h
  have h3 : a / u ≤ b / u + 1 := by
    rw [← Int.add_mul_ediv_right _ _ hu.ne']
    exact Int.ediv_le_ediv hu (by omega)
  have h4 : b / u ≤ a / u + 1 := by
    rw [← Int.add_mul_ediv_right _ _ hu.ne']
    exact Int.ediv_le_ediv hu (by omega)
  rw [abs_le]
  omega

theorem ffloor_of_finite {x : Binary64} (h : f64IsFinite x = true) : ffloor x = f64Units x / 2 ^ 1074 := by
  simp only [ffloor, h, if_true, Nat.one_shiftLeft, Nat.cast_pow, Nat.cast_ofNat]

/-- Up to `2 ^ k` cycles, and so below `2 ^ (k + 1)` with the errors, an addition is off by half an ulp of `2 ^ k` at most. -/
theorem iterate_fadd_error_halfUlps {c : Binary64} {k n : Nat} (hk : k ≤ 1000) (hn : n < 2 ^ 53)
    (hc : f64IsFinite c = true) (hc0 : 0 ≤ f64Units c) (hle : n * f64Units c ≤ 2 ^ k * 2 ^ 1074) :
    |f64Units ((fun a => fadd a c)^[n] f64Zero) - n * f64Units c| * 2 ^ 53 ≤ n * (2 ^ k * 2 ^ 1074) := by
  have hpow : (2 : Int) ^ k * 2 ^ 1074 = 2 ^ 52 * 2 ^ (k + 1022) := by
    rw [← pow_add, ← pow_add, show k + 1074 = 52 + (k + 1022) by omega]
  have hlt : (n : Int) * 2 ^ (k + 1022) < 2 ^ 53 * 2 ^ (k + 1022) :=
    mul_lt_mul_of_pos_right (by exact_mod_cast hn) (by positivity)
  rw [hpow] at hle ⊢
  obtain ⟨-, -, herr⟩ := iterate_fadd_error (e := k + 1022) (by omega) hc hc0 n (by omega)
  rw [mul_left_comm (n : Int)]
  omega

/-- Up to 100,000 periods of `2 ^ 20` cycles the accumulator stays below `2 ^ 37`, where an addition is off by `2 ^ -17`
cycles at most: altogether by less than one cycle. -/
theorem iterate_fadd_error_lt_cycle {c : Binary64} {n : Nat} (hn : n ≤ 100000) (hc : f64IsFinite c = true)
    (hc0 : 0 ≤ f64Units c) (hle : f64Units c ≤ 2 ^ 20 * 2 ^ 1074) :
    f64IsFinite ((fun a => fadd a c)^[n] f64Zero) = true ∧
      |f64Units ((fun a => fadd a c)^[n] f64Zero) - n * f64Units c| < 2 ^ 1074 := by
  have hpow : (2 : Int) ^ 1074 = 2 ^ 16 * 2 ^ 1058 := pow_add 2 16 1058
  have hpos : (0 : Int) < 2 ^ 1058 := by positivity
  have hn' : (n : Int) ≤ 100000 := by exact_mod_cast hn
  have hsum : n * f64Units c ≤ 100000 * (2 ^ 20 * 2 ^ 1074) := mul_le_mul hn' hle hc0 (by norm_num)
  have hulps : (n : Int) * 2 ^ 1058 ≤ 100000 * 2 ^ 1058 := mul_le_mul_of_nonneg_right hn' hpos.le
  rw [hpow] at hsum ⊢
  have herror := iterate_fadd_error (e := 1058) (by norm_num) hc hc0 n
  generalize (2 : Int) ^ 1058 = p at *
  obtain ⟨hfin, -, herr⟩ := herror (by omega)
  exact ⟨hfin, by omega⟩

/-- Settles O35: the delays telescope, and the accumulator is off by no more than its additions were rounded by. -/
theorem schedulingDoesNotDrift : Obligations.SchedulingDoesNotDrift := by
  intro s t x n h cpt total
  obtain ⟨hosc, l, hl, hlen, hsum⟩ := ticksOf_next h
  have hacc : (oscOf x t.block).acc = (fun a => fadd a cpt)^[n + 1] (oscOf x s.block).acc := by
    rw [hosc, (iterate_oscNext _ _).2]
  have hconsumed : (oscOf x t.block).consumed = ffloor (oscOf x t.block).acc := by
    rw [hosc, Function.iterate_succ_apply']
    rfl
  rw [hconsumed] at hsum
  refine ⟨hacc, l, hl, hlen, hsum, fun hfin hpos hzero hnone => ?_⟩
  rw [hzero] at hacc
  rw [hnone, sub_zero] at hsum
  have htotal : ((n + 1 : Nat) : Int) * f64Units cpt = total := by push_cast; rfl
  refine ⟨fun k hk hn hle => ?_, fun hn hle => ?_⟩
  · have herr := iterate_fadd_error_halfUlps hk hn hfin hpos.le (htotal.le.trans hle)
    rw [← hacc, htotal] at herr
    exact_mod_cast herr
  · obtain ⟨hfin', herr⟩ := iterate_fadd_error_lt_cycle hn hfin hpos.le hle
    rw [← hacc] at hfin' herr
    rw [hsum, ffloor_of_finite hfin', ← htotal]
    exact floor_sub_floor_le (by positivity) herr

/-! ### The delay is a cycle or more (R611) -/

/-- Bits below those of infinity stand for a finite value, which is not negative. -/
theorem finite_of_lt_inf {x : Binary64} (h : x.toNat < 2047 * 2 ^ 52) :
    f64IsFinite x = true ∧ f64Units x = magnitudeOfBits x.toNat := by
  constructor
  · simp only [f64IsFinite, f64Exponent, bne_iff_ne]
    omega
  · rw [f64Units, msb_of_le_inf h.le, f64Magnitude_eq x (by omega)]
    rfl

/-- A sum above zero of finite values is rounded once. -/
theorem fadd_toNat {x y : Binary64} {n : Nat} (hx : f64IsFinite x = true) (hy : f64IsFinite y = true) (hn : 0 < n)
    (h : f64Units x + f64Units y = n) : (fadd x y).toNat = roundMagnitude n 1 := by
  have ex : f64Exponent x ≠ 2047 := by simpa [f64IsFinite] using hx
  have ey : f64Exponent y ≠ 2047 := by simpa [f64IsFinite] using hy
  rw [fadd, if_neg (by simp [f64IsNaN, ex, ey]), if_neg (by simp [f64IsInf, ex]), if_neg (by simp [f64IsInf, ey]), h,
    if_neg (by omega), f64OfUnits, Int.natAbs_natCast, decide_eq_false (by omega)]
  exact f64Pack_false_toNat (roundMagnitude_le_inf n 1)

/-- Rounding is at least any representable magnitude not above the exact one. -/
theorem bits_le_roundMagnitude {bits n : Nat} (hb : bits ≤ 2047 * 2 ^ 52) (h : magnitudeOfBits bits ≤ n) :
    bits ≤ roundMagnitude n 1 := by
  obtain ⟨hm, hk, heq⟩ := bits_representable bits
  have := le_roundMagnitude one_pos hm hk (heq.trans_le hb) ((Nat.mul_one _).trans_le h)
  omega

/-- The greatest finite magnitude. -/
theorem magnitudeOfBits_le_max {bits : Nat} (h : bits < 2047 * 2 ^ 52) :
    magnitudeOfBits bits ≤ (2 ^ 53 - 1) * 2 ^ 2045 := by
  have hmax := magnitudeOfBits_add (q := 2 ^ 53 - 1) (s := 2045) (by norm_num) (.inr (by norm_num))
  rw [← hmax]
  exact magnitude_le_of_bits_le (by norm_num) (by omega)

/-- Up to the greatest finite magnitude and less than `2 ^ 53` cycles more is nearer to it than to the next, and so not
rounded to infinity. -/
theorem roundMagnitude_lt_inf {n m : Nat} (hn : n < 2 ^ 53 * 2 ^ 1074) (hm : m ≤ (2 ^ 53 - 1) * 2 ^ 2045) :
    roundMagnitude (n + m) 1 < 2047 * 2 ^ 52 := by
  have hinf := magnitudeOfBits_add (q := 2 ^ 53) (s := 2045) le_rfl (.inr (by norm_num))
  have hcycles : 2 ^ (53 + 1074) ≤ 2 ^ 2044 := pow_le_pow_right₀ one_le_two (by norm_num)
  rw [pow_add] at hcycles
  have hpow : 2 ^ 2045 = 2 * 2 ^ 2044 := by rw [← pow_succ']
  refine lt_of_le_of_ne (roundMagnitude_le_inf _ 1) fun heq => ?_
  obtain ⟨-, herr⟩ := roundMagnitude_error (n := n + m) (e := 2045) le_rfl (by omega)
  rw [heq, show 2047 * 2 ^ 52 = 2 ^ 53 + 2045 * 2 ^ 52 by norm_num, hinf] at herr
  omega

/-- Every whole number of cycles up to `2 ^ 53` is representable. -/
theorem cycles_representable {v : Nat} (h0 : 0 < v) (hv : v ≤ 2 ^ 53) :
    ∃ bits < 2047 * 2 ^ 52, magnitudeOfBits bits = v * 2 ^ 1074 := by
  obtain rfl | hlt := hv.eq_or_lt
  · exact ⟨_, by norm_num, magnitudeOfBits_add (s := 1074) le_rfl (.inr (by norm_num))⟩
  · have hlog : Nat.log2 v ≤ 52 := Nat.lt_succ_iff.1 ((Nat.log2_lt h0.ne').2 hlt)
    have hlow : 2 ^ 52 ≤ v * 2 ^ (52 - Nat.log2 v) := by
      calc 2 ^ 52 = 2 ^ Nat.log2 v * 2 ^ (52 - Nat.log2 v) := by rw [← pow_add, Nat.add_sub_cancel' hlog]
        _ ≤ v * 2 ^ (52 - Nat.log2 v) := Nat.mul_le_mul_right _ (Nat.log2_self_le h0.ne')
    have hhigh : v * 2 ^ (52 - Nat.log2 v) ≤ 2 ^ 53 := by
      calc v * 2 ^ (52 - Nat.log2 v) ≤ 2 ^ (Nat.log2 v + 1) * 2 ^ (52 - Nat.log2 v) :=
            Nat.mul_le_mul_right _ Nat.lt_log2_self.le
        _ = 2 ^ 53 := by rw [← pow_add]; congr 1; omega
    refine ⟨_, ?_, (magnitudeOfBits_add (s := 1022 + Nat.log2 v) hhigh (.inr hlow)).trans ?_⟩
    · omega
    · rw [Nat.mul_assoc, ← pow_add, show 52 - Nat.log2 v + (1022 + Nat.log2 v) = 1074 by omega]

/-- A value from 1.0 on has no sign, and bits from those of 1.0 on. -/
theorem bits_of_one_le {x : Binary64} (h : f64Le f64One x = true) : 1023 * 2 ^ 52 ≤ x.toNat ∧ x.toNat < 2 ^ 63 := by
  simp only [f64Le, Bool.and_eq_true, decide_eq_true_eq] at h
  obtain ⟨-, hkey⟩ := h
  have hone : f64Key f64One = 1023 * 2 ^ 52 := by decide
  rw [hone, f64Key] at hkey
  cases hmsb : x.msb with
  | true =>
    rw [hmsb, if_pos rfl] at hkey
    rw [BitVec.msb_eq_true_iff_two_mul_ge] at hmsb
    omega
  | false =>
    rw [hmsb, if_neg (by decide)] at hkey
    rw [BitVec.msb_eq_false_iff_two_mul_lt] at hmsb
    omega

/-- A value from 1.0 on is a cycle or more. -/
theorem one_cycle_le_units {x : Binary64} (hfin : f64IsFinite x = true) (h : f64Le f64One x = true) :
    2 ^ 1074 ≤ f64Units x := by
  obtain ⟨hlow, hhigh⟩ := bits_of_one_le h
  have hlt : x.toNat < 2047 * 2 ^ 52 := by
    have hexp : f64Exponent x ≠ 2047 := by simpa [f64IsFinite] using hfin
    unfold f64Exponent at hexp
    omega
  have hcycle := magnitude_le_of_bits_le hlt (show (1023 + 0) * 2 ^ 52 ≤ x.toNat from hlow)
  rw [magnitudeOfBits_twoPow, Nat.add_zero] at hcycle
  obtain ⟨-, hunits⟩ := finite_of_lt_inf hlt
  rw [hunits]
  exact_mod_cast hcycle

/-- The period of a machine that meets the invariant is a cycle or more (00_scope.md R12). -/
theorem one_le_cpt {s : State} (h : Ready s) (hinv : Inv s) (x : OscId) :
    f64Le f64One (oscOf x s.block).cpt = true := by
  have himage := (imageOk_iff _ _).1 (hinv.2 h.2)
  have hcpt : (oscOf x s.block).cpt = cyclesPerTick s.params s.block x := by
    rw [cyclesPerTick_eq_tableRate]
    cases x
    · exact himage.cptA
    · exact himage.cptB
  obtain ⟨htracks, -⟩ := himage.tracks
  have hlt := (s.block.raw.trackControl.extractLsb' s.params.layout.playTracks 2).isLt
  rw [hcpt]
  exact periodIsAtLeastOneCycle s.params s.block x ((paramsValid_iff_paramsOk _).1 h.1).1 (by omega) (by omega)

theorem consumed_eq_ffloor {s : State} (h : Ready s) (hinv : Inv s) (x : OscId) :
    (oscOf x s.block).consumed = ffloor (oscOf x s.block).acc := by
  obtain ⟨ha, hb⟩ := ((imageOk_iff _ _).1 (hinv.2 h.2)).counted
  cases x <;> assumption

/-- Below `2 ^ 53` cycles the next whole number of cycles is representable, so adding a cycle or more reaches it. -/
theorem ffloor_fadd_ge {a c : Binary64} (ha : f64IsFinite a = true) (ha0 : 0 ≤ f64Units a)
    (hlt : f64Units a < 2 ^ 53 * 2 ^ 1074) (hc : f64IsFinite c = true) (hc1 : 2 ^ 1074 ≤ f64Units c) :
    ffloor a + 1 ≤ ffloor (fadd a c) := by
  obtain ⟨-, hcbits, -⟩ := toNat_of_finite_pos hc (lt_of_lt_of_le (by positivity) hc1)
  have hmax := magnitudeOfBits_le_max hcbits
  have hcunits := (finite_of_lt_inf hcbits).2
  obtain ⟨n, hn⟩ := Int.eq_ofNat_of_zero_le ha0
  rw [hcunits] at hc1
  rw [hn] at hlt
  replace hc1 : 2 ^ 1074 ≤ magnitudeOfBits c.toNat := by exact_mod_cast hc1
  replace hlt : n < 2 ^ 53 * 2 ^ 1074 := by exact_mod_cast hlt
  have hpos : 0 < 2 ^ 1074 := by positivity
  have hsum : (fadd a c).toNat = roundMagnitude (n + magnitudeOfBits c.toNat) 1 :=
    fadd_toNat ha hc (by omega) (by rw [hn, hcunits]; rfl)
  have hfin : roundMagnitude (n + magnitudeOfBits c.toNat) 1 < 2047 * 2 ^ 52 := roundMagnitude_lt_inf hlt hmax
  obtain ⟨bits, hbits, hcycles⟩ := cycles_representable (v := n / 2 ^ 1074 + 1) (Nat.succ_pos _)
    ((Nat.div_lt_iff_lt_mul hpos).2 hlt)
  have hfloor : (n / 2 ^ 1074 + 1) * 2 ^ 1074 ≤ magnitudeOfBits (fadd a c).toNat := by
    rw [hsum, ← hcycles]
    refine magnitude_le_of_bits_le hfin (bits_le_roundMagnitude hbits.le ?_)
    rw [hcycles, Nat.succ_mul]
    exact Nat.add_le_add (Nat.div_mul_le_self _ _) hc1
  rw [← hsum] at hfin
  obtain ⟨hfin, hunits⟩ := finite_of_lt_inf hfin
  rw [ffloor_of_finite ha, ffloor_of_finite hfin, hunits, hn]
  exact_mod_cast (Nat.le_div_iff_mul_le hpos).2 hfloor

/-- Settles O34: the floor of the accumulator goes up by one or more, and `consumed` is that floor. -/
theorem oscillatorsNeverStall : Obligations.OscillatorsNeverStall := by
  intro s x h hinv hcfin hafin ha0 halt
  have hfloor := ffloor_fadd_ge hafin ha0 halt hcfin (one_cycle_le_units hcfin (one_le_cpt h hinv x))
  rw [← consumed_eq_ffloor h hinv x] at hfloor
  have hdelay : 1 ≤ oscDelay (oscOf x s.block) := by
    rw [oscDelay]
    omega
  cases x with
  | a => exact ⟨hdelay, _, (fireA_ends h).next hdelay⟩
  | b => exact ⟨hdelay, _, (fireB_ends h).next hdelay⟩

/-! ### Who changes the clock (R609) -/

/-- The rows whose writes recompute the clock. -/
def recomputes (row : Offset) : Bool := row == 0x20 || row == 0x21 || row == 0x35

/-- A byte write keeps the epoch, and of all rows only the three that recompute reach the clock. -/
theorem writeRow_clock {row : Offset} {d : Byte} {s t : State} (h : writeRow row d s = .ok t) :
    t.block.epoch = s.block.epoch ∧ (recomputes row = false → clockState t.block = clockState s.block) := by
  by_cases hlo : row = 0x0D#6
  · subst hlo
    rw [writeRow_countLo] at h
    split at h
    · exact Except.ok.inj h ▸ ⟨rfl, fun _ => rfl⟩
    · cases h
  · unfold writeRow at h
    split at h <;> rename_i hn
    case h_8 => exact absurd (BitVec.eq_of_toNat_eq hn) hlo
    all_goals obtain rfl := Except.ok.inj h
    case h_2 =>
      simp only [storeDmaControl, runEdge_eq_edgeChannel]
      exact ⟨rfl, fun _ => rfl⟩
    case h_3 | h_4 | h_5 =>
      simp only [storeStartHi, storeStartMid, storeStartLo, updBlock_block, latchStart_eq_a24]
      exact ⟨rfl, fun _ => rfl⟩
    case h_9 | h_10 | h_11 =>
      simp only [storeEndHi, storeEndMid, storeEndLo, updBlock_block, latchEnd_eq_a24]
      exact ⟨rfl, fun _ => rfl⟩
    case h_12 | h_13 | h_19 =>
      refine ⟨rfl, fun hrow => ?_⟩
      simp [recomputes, ← BitVec.toNat_inj, hn] at hrow
    all_goals exact ⟨rfl, fun _ => rfl⟩

/-- Some of the `n` byte writes from offset `o` on recomputes the clock, by the layout table. -/
def recomputesFrom (l : Layout) (o : Offset) : Nat → Bool
  | 0 => false
  | n + 1 => recomputes (rowAt l o) || recomputesFrom l (o + 1) n

/-- The byte writes of a wide write do to the clock no more than each of them does. -/
theorem writeBytes_clock {o : Offset} {bytes : List Byte} {s t : State} (h : writeBytes o bytes s = .ok t) :
    t.params = s.params ∧ t.block.epoch = s.block.epoch ∧
      (recomputesFrom s.params.layout o bytes.length = false → clockState t.block = clockState s.block) := by
  induction bytes generalizing o s with
  | nil => exact Except.ok.inj h ▸ ⟨rfl, rfl, fun _ => rfl⟩
  | cons b rest ih =>
    rw [writeBytes] at h
    cases hb : write8 o b s with
    | error e => rw [hb] at h; cases h
    | ok u =>
      rw [hb] at h
      obtain ⟨hp, -, -⟩ := writeRow_frame hb
      obtain ⟨hepoch, hclock⟩ := writeRow_clock hb
      obtain ⟨kp, kepoch, kclock⟩ := ih h
      refine ⟨kp.trans hp, kepoch.trans hepoch, fun hn => ?_⟩
      rw [List.length_cons, recomputesFrom, Bool.or_eq_false_iff] at hn
      exact (kclock (hp ▸ hn.2)).trans (hclock hn.1)

theorem mayRecompute_byteWriteForm (l : Layout) (row : Offset) (d : Byte) :
    mayRecompute l (byteWriteForm row d) = recomputes row := by
  obtain ⟨n⟩ := row
  fin_cases n <;> rfl

theorem mayRecompute_wwEven (l : Layout) (o : Offset) (d : BitVec 16) :
    mayRecompute l (.wwEven o d) = recomputesFrom l o 2 := by
  rw [recomputesFrom, recomputesFrom, recomputesFrom, Bool.or_false]
  rfl

theorem mayRecompute_wlEven (l : Layout) (o : Offset) (d : BitVec 32) :
    mayRecompute l (.wlEven o d) = recomputesFrom l o 4 := by
  have h2 : o + 1 + 1 = o + 2 := BitVec.add_assoc o 1 1
  have h3 : o + 2 + 1 = o + 3 := BitVec.add_assoc o 2 1
  simp only [recomputesFrom, h2, h3, Bool.or_false, ← Bool.or_assoc]
  rfl

/-- What an operation that is no fire, reset or restore keeps: the parameters and the epoch, and the clock where it does
not recompute. -/
structure ClockFrame (mayChange : Bool) (s t : State) : Prop where
  params : t.params = s.params
  epoch : t.block.epoch = s.block.epoch
  clock : mayChange = false → clockState t.block = clockState s.block

theorem ClockFrame.of_kept {mayChange : Bool} {s t : State} (hp : t.params = s.params)
    (he : t.block.epoch = s.block.epoch) (hc : clockState t.block = clockState s.block) : ClockFrame mayChange s t :=
  ⟨hp, he, fun _ => hc⟩

/-- A read that gives its result changes the count of draws alone. -/
theorem ClockFrame.of_read {mayChange : Bool} {s t u : State} {r : Result} (hframe : ∃ n, u = { s with draws := n })
    (h : Host.Outcome.next (giveResult r u) = (.next t : Out)) : ClockFrame mayChange s t := by
  obtain ⟨n, rfl⟩ := hframe
  obtain rfl := Host.Outcome.next.inj h
  exact .of_kept rfl rfl rfl

theorem exec_clockFrame {i : Instr} {s t : State} (h : exec i s = .next t) (hreset : isReset i = false)
    (hrestore : isRestore i = false) (hfire : isFire i = false) : ClockFrame (mayRecompute s.params.layout i) s t := by
  induction i using instr_byForms with
  | resetCold | resetWarm => cases hreset
  | restore b => cases hrestore
  | fireA e | fireB e => cases hfire
  | byteWrite row d =>
    rw [exec_byteWriteForm] at h
    obtain ⟨-, -, h⟩ := whenReady_next h
    obtain ⟨hp, -, -⟩ := writeRow_frame (finish_next.1 h)
    obtain ⟨he, hc⟩ := writeRow_clock (finish_next.1 h)
    exact ⟨hp, he, mayRecompute_byteWriteForm s.params.layout row d ▸ hc⟩
  | wwEven o d =>
    have h := finish_next.1 (wideAccess_next h)
    obtain ⟨hp, he, hc⟩ := writeBytes_clock (writeWord_eq o d s ▸ h)
    exact ⟨hp, he, mayRecompute_wwEven s.params.layout o d ▸ hc⟩
  | wlEven o d =>
    have h := finish_next.1 (wideAccess_next h)
    obtain ⟨hp, he, hc⟩ := writeBytes_clock (writeLong_eq o d s ▸ h)
    exact ⟨hp, he, mayRecompute_wlEven s.params.layout o d ▸ hc⟩
  | byteRead row =>
    rw [exec_byteReadForm] at h
    obtain ⟨-, -, h⟩ := whenReady_next h
    exact .of_read (rowRead_frame row s) h
  | rwEven o => exact .of_read (regReadWord_frame o s) (wideAccess_next h)
  | rlEven o => exact .of_read (regReadLong_frame o s) (wideAccess_next h)
  | wwOdd o d | wlOdd o d | rwOdd o | rlOdd o => exact absurd h (refuseMisaligned_ne_next s t)
  | mic l =>
    obtain ⟨-, -, h⟩ := whenReady_next h
    rw [finish_next, feedState] at h
    split at h
    · cases h
    · obtain rfl := Except.ok.inj h
      exact .of_kept rfl rfl rfl
  | fsoPlay | fsoRec | drain mix | capture =>
    obtain ⟨-, -, h⟩ := whenReady_next h
    obtain rfl := Host.Outcome.next.inj h
    exact .of_kept rfl rfl rfl

/-- What a fire leaves of the clock: the two periods and the mute. -/
def periods (b : Block) : Binary64 × Binary64 × Bool := (b.oscA.cpt, b.oscB.cpt, b.isDacMuted)

theorem periods_of_clockState {b c : Block} (h : clockState b = clockState c) : periods b = periods c :=
  congrArg (fun r : Osc × Osc × Bool => (r.1.cpt, r.2.1.cpt, r.2.2)) h

theorem fire_periods {x : OscId} {subflows : State → State} (hsub : ∀ u, TickFrame u (subflows u)) {e : Nat}
    {s t : State} (h : fire x subflows e s = .ok t) :
    t.params = s.params ∧ t.block.epoch = s.block.epoch ∧ periods t.block = periods s.block := by
  obtain ⟨-, rfl⟩ | ⟨-, -, rfl⟩ := fire_ok hsub h
  · exact ⟨rfl, rfl, rfl⟩
  · have hframe := (tickFrame_emit .acknowledge s).trans (hsub _)
    have hepoch := epoch_of_tickFrame hframe
    have hclock := clockState_of_tickFrame hframe
    have hperiods := periods_of_clockState hclock
    rw [fired, ← oscOf_of_clockState hclock]
    cases x <;> exact ⟨hframe.params, hepoch, hperiods⟩

theorem exec_fire_periods {i : Instr} {s t : State} (hi : isFire i = true) (h : exec i s = .next t) :
    t.params = s.params ∧ t.block.epoch = s.block.epoch ∧ periods t.block = periods s.block := by
  obtain ⟨x, e, hexec⟩ := exec_of_isFire hi
  rw [hexec] at h
  obtain ⟨-, -, h⟩ := whenReady_next h
  exact fire_periods (tickFrame_subflowsOf x) (finish_next.1 h)

/-- A reset sets the block anew, and schedules twice. -/
theorem resetState_params {s t : State} (h : resetState s = .ok t) : t.params = s.params := by
  unfold resetState at h
  cases ha : scheduleNext .a { s with block := resetBlockUnscheduled s.params (s.block.epoch + 1), hasReset := true } with
  | error e => rw [ha] at h; cases h
  | ok u =>
    rw [ha] at h
    rw [scheduleNext_ok (show scheduleNext .b u = .ok t from h), scheduleNext_ok ha]
    rfl

theorem exec_reset_params {i : Instr} {s t : State} (hi : isReset i = true) (h : exec i s = .next t) :
    t.params = s.params := by
  unfold isReset at hi
  split at hi
  · exact resetState_params (finish_next.1 (whenValid_next h).2)
  · exact resetState_params (finish_next.1 (whenValid_next h).2)
  · cases hi

theorem exec_restore_params {i : Instr} {s t : State} (hi : isRestore i = true) (h : exec i s = .next t) :
    t.params = s.params := by
  unfold isRestore at hi
  split at hi
  · obtain ⟨-, -, h⟩ := whenReady_next h
    rw [finish_next, restoreState] at h
    split at h
    · exact Except.ok.inj h ▸ rfl
    · cases h
  · cases hi

/-- Settles O56: a reset and a restore keep the parameters, a fire the periods as well, and every other operation is
held to `ClockFrame`. -/
theorem clockChangesByItsCallersOnly : Obligations.ClockChangesByItsCallersOnly := by
  intro s t i h
  cases hreset : isReset i with
  | true => exact ⟨exec_reset_params hreset h, nofun, nofun, nofun⟩
  | false =>
    cases hrestore : isRestore i with
    | true => exact ⟨exec_restore_params hrestore h, nofun, nofun, nofun⟩
    | false =>
      cases hfire : isFire i with
      | true =>
        obtain ⟨hp, he, hperiods⟩ := exec_fire_periods hfire h
        simp only [periods, Prod.mk.injEq] at hperiods
        exact ⟨hp, fun _ _ => he, fun _ _ _ => hperiods, nofun⟩
      | false =>
        obtain ⟨hp, he, hc⟩ := exec_clockFrame h hreset hrestore hfire
        simp only [clockState, Prod.mk.injEq] at hc
        refine ⟨hp, fun _ _ => he, fun _ _ hn => ?_, fun _ _ hn _ => ?_⟩
        · obtain ⟨ha, hb, hm⟩ := hc hn
          exact ⟨congrArg Osc.cpt ha, congrArg Osc.cpt hb, hm⟩
        · obtain ⟨ha, hb, -⟩ := hc hn
          exact ⟨ha, hb⟩

end Sys2Proof.Machine

/-! PROOFS. The claims of 43_transfer_engine.md: the end of a frame (R730, R731), the sinks (R710 to R713, R725, R735), the
three source ticks (R700 to R706, R715 to R721), streamed frames, and what a fire leaves alone (R737). -/

namespace Sys2Proof.Machine

/-! ### The end of a frame (R730, R731) -/

/-- The two pulses of an end of frame, GPIO first. -/
theorem pulseIrq_both (c : DmaChannel) (s : State) :
    pulseIrq c.timerAInterrupt .timerA (pulseIrq c.mfpInterrupt15 .gpio s) =
      { s with events := s.events ++ (framePulses c).map .pulseIrq } := by
  unfold pulseIrq framePulses
  cases c.mfpInterrupt15 <;> cases c.timerAInterrupt <;> simp [emit]

/-- An end of frame, the pulses first: a channel that loops takes its latched frame anew, another one stops. -/
theorem endOfFrame_eq (ch : Chan) (s : State) :
    endOfFrame ch s = { s with
      block := if (dmaOf ch s.block).loopMode then loadBounds ch s.block else (autoStop ch s).block
      events := s.events ++ (framePulses (dmaOf ch s.block)).map .pulseIrq ++
        if (dmaOf ch s.block).loopMode && isDegenerate ch s.block then [.logDegenerateFrame ch] else [] } := by
  rw [endOfFrame]
  simp only [pulseIrq_both]
  cases (dmaOf ch s.block).loopMode with
  | false => simp [autoStop, stopChannel, updDma, updRaw, updBlock]
  | true => cases hdegenerate : isDegenerate ch s.block <;> simp [loadFrame, hdegenerate, emit, updBlock]

/-- Settles O45: the one equation of an end of frame, for each channel. -/
theorem endOfFramePulsesThenReloadsOrStops : Obligations.EndOfFramePulsesThenReloadsOrStops :=
  fun s => ⟨endOfFrame_eq .play s, endOfFrame_eq .record s, rfl, rfl⟩

/-- A channel's record after an end of frame. -/
def frameOver (start stop : Addr) (c : DmaChannel) : DmaChannel :=
  if c.loopMode then
    { c with frameStart := start, frameEnd := stop, frameLen := stop - start, frameCounter := 0 }
  else { c with isRunning := false, frameCounter := 0 }

theorem frameOver_loop {c : DmaChannel} (h : c.loopMode = true) (start stop : Addr) :
    frameOver start stop c =
      { c with frameStart := start, frameEnd := stop, frameLen := stop - start, frameCounter := 0 } := if_pos h

/-- An end of frame changes of the block the channel's record and the register file. -/
theorem endOfFrame_block (ch : Chan) (s : State) :
    ∃ r, (endOfFrame ch s).block =
      { mapDma ch (frameOver (latchedStart ch s.block) (latchedEnd ch s.block)) s.block with raw := r } := by
  cases hloop : (dmaOf ch s.block).loopMode with
  | true =>
    refine ⟨s.block.raw, ?_⟩
    rw [endOfFrame_eq]
    cases ch <;> simp_all [loadBounds, frameOver]
  | false =>
    refine ⟨(autoStop ch s).block.raw, ?_⟩
    rw [endOfFrame_eq]
    cases ch <;> simp_all [autoStop, stopChannel, frameOver]

@[simp] theorem endOfFrame_memory (ch : Chan) (s : State) : (endOfFrame ch s).memory = s.memory := by
  rw [endOfFrame_eq]

/-! ### A channel moves on (R703, R706, R713) -/

/-- How far the counter moves, as R703 says it. -/
theorem counterAdvance_eq (is16 stereo : Bool) (slot : Nat) :
    counterAdvance is16 stereo slot = if is16 then 2 else if stereo then 1 else slot % 2 := by
  unfold counterAdvance
  obtain h | h := Nat.mod_two_eq_zero_or_one slot <;> cases stereo <;> simp [h]

/-- A channel's record after one sample, its frame not yet looked at. -/
def movedOn (tracks inc : Nat) (c : DmaChannel) : DmaChannel :=
  { c with slot := (c.slot + 1) % (tracks * 2), frameCounter := c.frameCounter + inc }

theorem advanceChannel_eq (ch : Chan) (inc : Nat) (s : State) :
    advanceChannel ch inc s =
      if (dmaOf ch s.block).frameCounter + inc < (dmaOf ch s.block).frameLen.toNat then
        updDma ch (movedOn (tracksOf ch s.block) inc) s
      else endOfFrame ch (updDma ch (movedOn (tracksOf ch s.block) inc) s) := by
  unfold advanceChannel
  simp only [updDma_block, dmaOf_mapDma_same, ← Nat.not_lt, ite_not]
  rfl

@[simp] theorem advanceChannel_memory (ch : Chan) (inc : Nat) (s : State) :
    (advanceChannel ch inc s).memory = s.memory := by
  rw [advanceChannel_eq]
  split <;> simp

/-- A channel's record after one sample and, where the frame is through, its end. -/
def afterSample (tracks inc : Nat) (start stop : Addr) (c : DmaChannel) : DmaChannel :=
  if c.frameCounter + inc < c.frameLen.toNat then movedOn tracks inc c else frameOver start stop (movedOn tracks inc c)

/-- All that moving on changes of the block: the channel's record and the register file. -/
theorem advanceChannel_block (ch : Chan) (inc : Nat) (s : State) :
    ∃ r, (advanceChannel ch inc s).block =
      { mapDma ch (afterSample (tracksOf ch s.block) inc (latchedStart ch s.block) (latchedEnd ch s.block)) s.block with
        raw := r } := by
  rw [advanceChannel_eq]
  split
  · next hlt =>
    refine ⟨s.block.raw, ?_⟩
    cases ch <;> simp_all [afterSample]
  · next hge =>
    obtain ⟨r, hr⟩ := endOfFrame_block ch (updDma ch (movedOn (tracksOf ch s.block) inc) s)
    refine ⟨r, ?_⟩
    rw [hr]
    cases ch <;> simp_all [afterSample]

theorem afterSample_handshakeFrame (tracks inc : Nat) (start stop : Addr) (c : DmaChannel) :
    (afterSample tracks inc start stop c).handshakeFrame = c.handshakeFrame := by
  unfold afterSample frameOver
  split
  · rfl
  · split <;> rfl

/-! ### The DAC and DSP-receive (R725, R735) -/

theorem dacSink_left {slot : Nat} {s : State} (h : slot = s.block.trackMonitored.toNat * 2) (v : Sample) :
    dacSink v slot s =
      updBlock (fun b => { b with dac := ringPutLeft (dacValue s.block.isDacMuted v) b.dac }) s := if_pos h

theorem dacSink_right {slot : Nat} {s : State} (h : slot = s.block.trackMonitored.toNat * 2 + 1) (v : Sample) :
    dacSink v slot s =
      updBlock (fun b => { b with
        dac := ringPutRight s.params.dacCap (dacValue s.block.isDacMuted v) b.dac
        dacPending := fadd b.dacPending f64One }) s := (if_neg (by omega)).trans (if_pos h)

theorem dspRxSink_eq {s : State} (h : s.block.dspRx.isTristated = false) (v : Sample) (frame : Bool) :
    dspRxSink v frame s =
      { s with events := s.events ++ [.dspWriteRx v, .dspFrameSyncIn .rx frame, .dspBitClock .rx] } := by
  simp [dspRxSink, h, emit]

/-- Settles O40: by the slot, and by the tristate of the port. -/
theorem dacAndDspReceiveSinks : Obligations.DacAndDspReceiveSinks :=
  fun _ v _ frame => ⟨fun h => dacSink_left h v, fun h => dacSink_right h v,
    fun h0 h1 => (if_neg h0).trans (if_neg h1), fun h => if_pos h, fun h => dspRxSink_eq h v frame⟩

@[simp] theorem dacSink_memory (v : Sample) (slot : Nat) (s : State) : (dacSink v slot s).memory = s.memory := by
  unfold dacSink
  dsimp only
  split
  · rfl
  · split <;> rfl

@[simp] theorem dacSink_events (v : Sample) (slot : Nat) (s : State) : (dacSink v slot s).events = s.events := by
  unfold dacSink
  dsimp only
  split
  · rfl
  · split <;> rfl

@[simp] theorem dspRxSink_memory (v : Sample) (frame : Bool) (s : State) : (dspRxSink v frame s).memory = s.memory := by
  unfold dspRxSink
  split <;> rfl

/-- The ring the DAC fills and the count of its pending pairs. -/
def dacPart (b : Block) : Ring × Binary64 := (b.dac, b.dacPending)

/-- All of the block that the DAC sink looks at. -/
def dacView (b : Block) : Bool × BitVec 2 × Ring × Binary64 := (b.isDacMuted, b.trackMonitored, b.dac, b.dacPending)

theorem dacPart_dacSink_congr {s t : State} (hp : t.params = s.params) (hb : dacView t.block = dacView s.block)
    (v : Sample) (slot : Nat) (toCodec : Bool) :
    dacPart (if toCodec then dacSink v slot t else t).block = dacPart (if toCodec then dacSink v slot s else s).block := by
  simp only [dacView, Prod.mk.injEq] at hb
  obtain ⟨hmuted, hmonitored, hdac, hpending⟩ := hb
  cases toCodec with
  | false => simp [dacPart, hdac, hpending]
  | true =>
    simp only [if_true, dacSink, hmuted, hmonitored]
    split
    · simp [dacPart, hdac, hpending]
    · split <;> simp [dacPart, hdac, hpending, hp]

/-- DMA-record and DSP-receive leave the DAC as the DAC's own sink does. -/
theorem fanOut_dacPart (toDma toCodec toDsp : Bool) (v vdac : Sample) (slot : Nat) (frame : Bool) (s : State) :
    dacPart (fanOut toDma toCodec toDsp v vdac slot frame s).block =
      dacPart (if toCodec then dacSink vdac slot s else s).block := by
  obtain ⟨c, r, hb⟩ := fanOut_block toDma toCodec toDsp v vdac slot frame s
  rw [hb]
  rfl

/-- Of the sinks DMA-record alone stores in memory. -/
theorem fanOut_memory (toDma toCodec toDsp : Bool) (v vdac : Sample) (slot : Nat) (frame : Bool) (s : State) :
    (fanOut toDma toCodec toDsp v vdac slot frame s).memory = (if toDma then dmaRecordSink v s else s).memory := by
  unfold fanOut
  cases toCodec <;> cases toDsp <;> simp

/-! ### A play tick (R701 to R706) -/

/-- A moving channel that is gated takes its flag (R702). -/
def takePlayFlag (s : State) : State :=
  updDma .play (fun c => { c with handshakeFrame := c.handshakeFrame && !c.connectedToDspHandshake }) s

/-- A play tick before its channel moves on: the sample is read and sent on. -/
def playFed (s : State) : State :=
  let c := s.block.playDma
  let v := playSample (effectiveAddr c) s
  fanOut c.connectedToDma c.connectedToCodec c.connectedToDsp v (playDacValue s.block.is16Bit v) c.slot
    (frameSync c.slot) (readPlaySample (effectiveAddr c) s)

/-- How far a play tick moves the counter. -/
def playInc (b : Block) : Nat := counterAdvance b.is16Bit b.isStereo b.playDma.slot

theorem dmaPlayMove_eq (s : State) : dmaPlayMove s = advanceChannel .play (playInc s.block) (playFed s) := rfl

theorem takePlayFlag_of_ungated {s : State} (hgate : s.block.playDma.connectedToDspHandshake = false) :
    takePlayFlag s = s := by
  have hflag : (s.block.playDma.handshakeFrame && !s.block.playDma.connectedToDspHandshake) =
      s.block.playDma.handshakeFrame := by rw [hgate, Bool.not_false, Bool.and_true]
  simp only [takePlayFlag, updDma, updBlock, mapDma_play, hflag]

theorem dmaPlayTick_of_moves {s : State} (h : PlayMoves s) : dmaPlayTick s = dmaPlayMove (takePlayFlag s) := by
  obtain ⟨hrun, hflag⟩ := h
  cases hgate : s.block.playDma.connectedToDspHandshake with
  | true => simp [dmaPlayTick, takePlayFlag, hrun, hgate, hflag hgate, updDma, updBlock]
  | false => simp [dmaPlayTick, takePlayFlag_of_ungated hgate, hrun, hgate]

theorem dmaPlayTick_of_not_moves {s : State} (h : ¬PlayMoves s) : dmaPlayTick s = s := by
  simp only [PlayMoves, not_and, Classical.not_imp, Bool.not_eq_true] at h
  cases hrun : s.block.playDma.isRunning with
  | false => simp [dmaPlayTick, hrun]
  | true =>
    obtain ⟨hgate, hflag⟩ := h hrun
    simp [dmaPlayTick, hrun, hgate, hflag]

/-- Feeding a sample changes of the block the record channel, the register file and the DAC. -/
theorem playFed_block (s : State) :
    ∃ c r d n, (playFed s).block = { s.block with recDma := c, raw := r, dac := d, dacPending := n } := by
  obtain ⟨c, r, hb⟩ := fanOut_block s.block.playDma.connectedToDma s.block.playDma.connectedToCodec
    s.block.playDma.connectedToDsp (playSample (effectiveAddr s.block.playDma) s)
    (playDacValue s.block.is16Bit (playSample (effectiveAddr s.block.playDma) s)) s.block.playDma.slot
    (frameSync s.block.playDma.slot) (readPlaySample (effectiveAddr s.block.playDma) s)
  rw [readPlaySample_block] at hb
  exact ⟨_, _, _, _, hb⟩

theorem playFed_playDma (s : State) : (playFed s).block.playDma = s.block.playDma := by
  obtain ⟨c, r, d, n, hb⟩ := playFed_block s
  rw [hb]

theorem tickFrame_playFed (s : State) : TickFrame s (playFed s) :=
  (tickFrame_readPlaySample _ s).trans (tickFrame_fanOut _ _ _ _ _ _ _ _)

theorem dmaPlayMove_playDma (s : State) :
    (dmaPlayMove s).block.playDma =
      afterSample s.block.playTracks (playInc s.block) s.block.latchedStartPlay s.block.latchedEndPlay s.block.playDma := by
  obtain ⟨r, hb⟩ := advanceChannel_block .play (playInc s.block) (playFed s)
  obtain ⟨c, q, d, n, hfed⟩ := playFed_block s
  rw [dmaPlayMove_eq, hb, hfed]
  rfl

/-- Settles O38: a tick that moves is one sample of the channel that took its flag. -/
theorem playTickMovesTheChannel : Obligations.PlayTickMovesTheChannel := by
  intro s c n moved
  refine ⟨dmaPlayTick_of_not_moves, fun h => ?_⟩
  rw [dmaPlayTick_of_moves h, dmaPlayMove_playDma, playInc, counterAdvance_eq]
  rfl

@[simp] theorem memRead_events (a : Addr) (s : State) : (memRead a s).events = s.events ++ [.memRead a] := by
  unfold memRead
  split <;> rfl

theorem readPlaySample_events (a : Addr) (s : State) :
    (readPlaySample a s).events =
      s.events ++ (if s.block.is16Bit then [.memRead a, .memRead (a + 1)] else [.memRead a]) := by
  unfold readPlaySample readSampleWord
  split <;> simp

/-- What is read does not depend on the block. -/
theorem memByte_memRead_updBlock (a b : Addr) (f : Block → Block) (s : State) :
    memByte b (memRead a (updBlock f s)) = memByte b (memRead a s) := by
  have hframe : memRead a (updBlock f s) = updBlock f (memRead a s) := by
    cases hlisted : (memLookup s.memory a.toNat).isSome <;> simp [memRead, hlisted] <;> rfl
  rw [hframe]
  rfl

/-- The sample of a play tick, its flag taken or not. -/
theorem playSample_takePlayFlag (a : Addr) (s : State) :
    playSample a (takePlayFlag s) =
      if s.block.is16Bit then memByte a s ++ memByte (a + 1) (memRead a s) else (memByte a s).signExtend 16 := by
  rw [← memByte_memRead_updBlock a (a + 1) (mapDma .play _) s]
  rfl

/-- The DAC's copy of a sample, by the byte that an 8-bit one is (R704). -/
theorem playDacValue_of_byte {is16 : Bool} {v : Sample} {b : Byte} (hv : is16 = false → v = b.signExtend 16) :
    playDacValue is16 v = if is16 then v else BitVec.ofInt 16 (b.toInt * 64) := by
  cases is16 with
  | true => simp only [playDacValue, if_true]
  | false =>
    have hsign : (b.signExtend 16).toInt = b.toInt := BitVec.toInt_signExtend_of_le (by decide)
    simp [playDacValue, scaleForDac, trunc16, hv rfl, hsign]

/-- A play tick leaves the DAC as the DAC's own sink does. -/
theorem dacPart_dmaPlayMove (s : State) :
    dacPart (dmaPlayMove s).block = dacPart (if s.block.playDma.connectedToCodec then
      dacSink (playDacValue s.block.is16Bit (playSample (effectiveAddr s.block.playDma) s)) s.block.playDma.slot s
      else s).block := by
  obtain ⟨r, hb⟩ := advanceChannel_block .play (playInc s.block) (playFed s)
  have hread := tickFrame_readPlaySample (effectiveAddr s.block.playDma) s
  calc dacPart (dmaPlayMove s).block = dacPart (playFed s).block := by rw [dmaPlayMove_eq, hb]; rfl
    _ = _ := fanOut_dacPart _ _ _ _ _ _ _ _
    _ = _ := dacPart_dacSink_congr hread.params (by rw [readPlaySample_block]) _ _ _

/-- Settles O39: the tick is the feeding of the sample and one step of the channel. -/
theorem playTickFeedsItsDestinations : Obligations.PlayTickFeedsItsDestinations := by
  intro s hm c a v forDac n s0 s1 s2 s3 s4 s5
  have htick : dmaPlayTick s = dmaPlayMove s0 := dmaPlayTick_of_moves hm
  have hv : playSample a s0 = v := playSample_takePlayFlag a s
  have hforDac : playDacValue s.block.is16Bit v = forDac :=
    playDacValue_of_byte fun h => if_neg (Bool.eq_false_iff.1 h)
  have hfed : playFed s0 = s4 := by
    have h : playFed s0 = fanOut c.connectedToDma c.connectedToCodec c.connectedToDsp (playSample a s0)
      (playDacValue s.block.is16Bit (playSample a s0)) c.slot (frameSync c.slot) s1 := rfl
    rw [h, hv, hforDac]
    rfl
  have hn : c.frameCounter + playInc s0.block = n := congrArg (c.frameCounter + ·) (counterAdvance_eq _ _ _)
  refine ⟨fun b => memByte_of_listed, fun b hb => memByte_of_listed (by rwa [memRead_memory]), ?_, ?_, Prod.mk.inj ?_⟩
  · obtain ⟨d, q, r, m, hb⟩ := playFed_block s0
    rw [hfed] at hb
    have hplay : s4.block.playDma = s0.block.playDma := by rw [hb]
    have htracks : s4.block.playTracks = s.block.playTracks := by rw [hb]
    have hmoved : movedOn s4.block.playTracks (playInc s0.block) s4.block.playDma =
        { s4.block.playDma with slot := (c.slot + 1) % (s.block.playTracks * 2), frameCounter := n } := by
      rw [htracks, hplay, ← hn]
      rfl
    have hs5 : updDma .play (movedOn s4.block.playTracks (playInc s0.block)) s4 = s5 :=
      congrArg (fun d => { s4 with block := { s4.block with playDma := d } }) hmoved
    rw [htick, dmaPlayMove_eq, hfed, advanceChannel_eq, tracksOf_play, hs5, dmaOf_play, hplay, ← hn]
  · have hframe : TickFrame s1 (dmaPlayMove s0) :=
      (tickFrame_fanOut _ _ _ _ _ _ _ _).trans (tickFrame_advanceChannel _ _ _)
    obtain ⟨l, hl⟩ := hframe.events
    have hs1 := readPlaySample_events a s0
    exact ⟨l, by rw [htick, hl]; exact congrArg (· ++ l) hs1⟩
  · rw [htick, ← hforDac, ← hv]
    exact (dacPart_dmaPlayMove s0).trans (dacPart_dacSink_congr (s := s) (t := s0) rfl rfl _ _ _)

/-! ### DMA-record (R710 to R713) -/

/-- The store of a sample at the record address, big-endian or its low byte. -/
def recordStore (v : Sample) (s : State) : State :=
  if s.block.is16Bit then writeSampleWord (effectiveAddr s.block.recDma) v s
  else memWrite (effectiveAddr s.block.recDma) (low8 v) s

/-- How far a stored sample moves the record counter. -/
def recordInc (b : Block) : Nat := counterAdvance b.is16Bit b.isStereo b.recDma.slot

theorem dmaRecordSink_of_stopped {s : State} (h : s.block.recDma.isRunning = false) (v : Sample) :
    dmaRecordSink v s = s := by simp [dmaRecordSink, h]

theorem dmaRecordSink_of_running {s : State} (h : s.block.recDma.isRunning = true) (v : Sample) :
    dmaRecordSink v s = advanceChannel .record (recordInc s.block) (recordStore v s) := by
  simp [dmaRecordSink, h, recordInc, recordStore]

@[simp] theorem recordStore_block (v : Sample) (s : State) : (recordStore v s).block = s.block := by
  unfold recordStore
  split <;> rfl

theorem dmaRecordSink_recDma {s : State} (h : s.block.recDma.isRunning = true) (v : Sample) :
    (dmaRecordSink v s).block.recDma = afterSample s.block.recordTracks (recordInc s.block) s.block.latchedStartRec
      s.block.latchedEndRec s.block.recDma := by
  obtain ⟨r, hb⟩ := advanceChannel_block .record (recordInc s.block) (recordStore v s)
  rw [dmaRecordSink_of_running h, hb, recordStore_block]
  rfl

theorem dmaRecordSink_memory {s : State} (h : s.block.recDma.isRunning = true) (v : Sample) :
    (dmaRecordSink v s).memory = (recordStore v s).memory := by
  rw [dmaRecordSink_of_running h, advanceChannel_memory]

/-- What a running record channel records first: the stores of its sample. -/
theorem dmaRecordSink_events {s : State} (h : s.block.recDma.isRunning = true) (v : Sample) :
    ∃ l, (dmaRecordSink v s).events = (recordStore v s).events ++ l := by
  rw [dmaRecordSink_of_running h]
  exact (tickFrame_advanceChannel _ _ _).events

theorem dmaRecordSink_handshakeFrame (v : Sample) (s : State) :
    (dmaRecordSink v s).block.recDma.handshakeFrame = s.block.recDma.handshakeFrame := by
  cases h : s.block.recDma.isRunning with
  | false => rw [dmaRecordSink_of_stopped h]
  | true => rw [dmaRecordSink_recDma h, afterSample_handshakeFrame]

theorem memLookup_memWrite_same (a : Addr) (v : Byte) (s : State) :
    memLookup (memWrite a v s).memory a.toNat = some v := memLookup_memInsert_same _ _ _

theorem memLookup_memWrite_other {a b : Addr} (h : b ≠ a) (v : Byte) (s : State) :
    memLookup (memWrite a v s).memory b.toNat = memLookup s.memory b.toNat :=
  memLookup_memInsert_other (mt BitVec.eq_of_toNat_eq h) _ _

theorem addr_ne_succ (a : Addr) : a ≠ a + 1 := by bv_omega

/-- A 16-bit store is big-endian. -/
theorem memLookup_writeSampleWord (a : Addr) (v : Sample) (s : State) :
    memLookup (writeSampleWord a v s).memory a.toNat = some (high8 v) ∧
      memLookup (writeSampleWord a v s).memory (a + 1).toNat = some (low8 v) :=
  ⟨(memLookup_memWrite_other (addr_ne_succ a) _ _).trans (memLookup_memWrite_same _ _ _), memLookup_memWrite_same _ _ _⟩

/-- A 16-bit sample for a running record channel lies big-endian at its address. -/
theorem dmaRecordSink_stores_word {s : State} (h : s.block.recDma.isRunning = true) (h16 : s.block.is16Bit = true)
    (v : Sample) :
    memLookup (dmaRecordSink v s).memory (effectiveAddr s.block.recDma).toNat = some (high8 v) ∧
      memLookup (dmaRecordSink v s).memory (effectiveAddr s.block.recDma + 1).toNat = some (low8 v) := by
  rw [dmaRecordSink_memory h, recordStore, if_pos h16]
  exact memLookup_writeSampleWord _ _ _

/-- A sample leaves every byte but the one or two at the record address. -/
theorem memLookup_recordStore_other {s : State} {b : Addr} (h : b ≠ effectiveAddr s.block.recDma)
    (h16 : s.block.is16Bit = true → b ≠ effectiveAddr s.block.recDma + 1) (v : Sample) :
    memLookup (recordStore v s).memory b.toNat = memLookup s.memory b.toNat := by
  unfold recordStore
  split
  · next hw => exact (memLookup_memWrite_other (h16 hw) _ _).trans (memLookup_memWrite_other h _ _)
  · exact memLookup_memWrite_other h _ _

/-- Settles O41: a running channel stores, by the format, and moves on. -/
theorem recordSinkStoresTheSample : Obligations.RecordSinkStoresTheSample := by
  intro s v c a n moved t
  refine ⟨fun h => dmaRecordSink_of_stopped h v, fun h => ⟨fun h16 => ?_, fun h8 => ?_, ?_⟩⟩
  · obtain ⟨hhigh, hlow⟩ := dmaRecordSink_stores_word h h16 v
    obtain ⟨l, hl⟩ := dmaRecordSink_events h v
    refine ⟨hhigh, hlow, fun b hb hb1 => ?_, l, ?_⟩
    · rw [dmaRecordSink_memory h]
      exact memLookup_recordStore_other hb (fun _ => hb1) v
    · rw [hl, recordStore, if_pos h16, writeSampleWord, memWrite_eq, memWrite_eq, List.append_assoc s.events]
      rfl
  · obtain ⟨l, hl⟩ := dmaRecordSink_events h v
    have hstore : recordStore v s = memWrite a (low8 v) s := by
      rw [recordStore, h8, if_neg Bool.false_ne_true]
      rfl
    refine ⟨?_, fun b hb => ?_, l, by rw [hl, hstore]; rfl⟩
    · rw [dmaRecordSink_memory h, hstore]
      exact memLookup_memWrite_same _ _ _
    · rw [dmaRecordSink_memory h, hstore]
      exact memLookup_memWrite_other hb _ _
  · rw [dmaRecordSink_recDma h, recordInc, counterAdvance_eq]
    rfl

/-! ### One sample in two places (R739) -/

/-- A play tick stores in memory what DMA-record stores of its sample. -/
theorem dmaPlayMove_memory (s : State) :
    (dmaPlayMove s).memory =
      (if s.block.playDma.connectedToDma then
        dmaRecordSink (playSample (effectiveAddr s.block.playDma) s) (readPlaySample (effectiveAddr s.block.playDma) s)
      else readPlaySample (effectiveAddr s.block.playDma) s).memory :=
  (advanceChannel_memory _ _ _).trans (fanOut_memory _ _ _ _ _ _ _ _)

/-- Settles O42: the DAC by the play tick's own claim, memory by what DMA-record stores of the same sample. -/
theorem fanOutReachesDacAndMemory : Obligations.FanOutReachesDacAndMemory := by
  intro s hm h16 hmute hdma hcodec hrec a r v t
  obtain ⟨hread, hread', -, -, hdac, -⟩ := playTickFeedsItsDestinations s hm
  have hv : playSample a (takePlayFlag s) = v := (playSample_takePlayFlag a s).trans (if_pos h16)
  have hmemory : t.memory = (dmaRecordSink v (readPlaySample a (takePlayFlag s))).memory := by
    rw [← hv, show t = _ from dmaPlayTick_of_moves hm, dmaPlayMove_memory]
    exact congrArg State.memory (if_pos hdma)
  have hstored := dmaRecordSink_stores_word (s := readPlaySample a (takePlayFlag s))
    (by rw [readPlaySample_block]; exact hrec) (by rw [readPlaySample_block]; exact h16) v
  rw [← hmemory, readPlaySample_block] at hstored
  obtain ⟨hhigh, hlow⟩ := hstored
  simp only [hcodec, h16, if_true] at hdac
  refine ⟨hread, hread', hhigh, hlow, fun hslot hlt => ?_, fun hslot hlt => ?_⟩
  · rw [hdac, dacSink_left hslot, hmute]
    exact List.getElem?_set_self hlt
  · rw [hdac, dacSink_right hslot, hmute]
    exact List.getElem?_set_self hlt

/-! ### A DSP-transmit tick (R715 to R718) -/

/-- The next word of the DSP's queue is gone, or one more word has been drawn. -/
theorem dspReadTx_eq (s : State) :
    dspReadTx s = { s with
      dspWords := s.dspWords.tail
      draws := if s.dspWords = [] then s.draws + 1 else s.draws
      events := s.events ++ [.dspReadTx] } := by
  obtain ⟨params, block, hasReset, memory, dspWords, draws, stream, events, results⟩ := s
  cases dspWords <;> rfl

/-- A port that is neither tristated nor in the handshake drives the lines, then reads its word, sends it on and counts. -/
theorem dspXmitTick_eq {s : State} (htri : s.block.dspTx.isTristated = false)
    (hshake : s.block.dspTx.connectedToDmaHandshake = false) :
    dspXmitTick s = updBlock advanceWordCount
      (fanOut s.block.dspTx.connectedToDma s.block.dspTx.connectedToCodec s.block.dspTx.connectedToDsp (dspWord s)
        (dspWord s) s.block.dspTx.wordCount (frameSync s.block.dspTx.wordCount)
        { s with
          dspWords := s.dspWords.tail
          draws := if s.dspWords = [] then s.draws + 1 else s.draws
          events := s.events ++
            [.dspFrameSyncIn .tx (frameSync s.block.dspTx.wordCount), .dspBitClock .tx, .dspReadTx] }) := by
  simp only [dspXmitTick, htri, hshake, Bool.false_eq_true, if_false, dspReadTx_eq, emit_events, List.append_assoc]
  rfl

/-- A port in the record handshake moves one word for the flag it takes (R718). -/
theorem dspXmitTick_handshake {s : State} (htri : s.block.dspTx.isTristated = false)
    (hshake : s.block.dspTx.connectedToDmaHandshake = true) : dspXmitTick s = dspXmitHandshake s := by
  simp [dspXmitTick, htri, hshake]

/-- The record handshake takes the flag of the record channel (R718). -/
def takeRecordFlag (s : State) : State := updDma .record (fun c => { c with handshakeFrame := false }) s

theorem dspXmitHandshake_of_no_flag {s : State} (h : s.block.recDma.handshakeFrame = false) :
    dspXmitHandshake s = s := by simp [dspXmitHandshake, h]

theorem dspXmitHandshake_of_flag {s : State} (h : s.block.recDma.handshakeFrame = true) :
    dspXmitHandshake s = dmaRecordSink (dspWord s) (dspReadTx (takeRecordFlag s)) := by
  rw [dspXmitHandshake, h]
  rfl

/-- Settles O43: by the tristate, the handshake and its flag. -/
theorem dspTransmitTick : Obligations.DspTransmitTick := by
  intro s p w v t s1 s2 s3 s4
  refine ⟨fun htri => if_pos htri, fun htri hshake => ?_, fun htri hshake => ?_⟩
  · have htick : t = dspXmitHandshake s := dspXmitTick_handshake htri hshake
    refine ⟨fun hflag => htick.trans (dspXmitHandshake_of_no_flag hflag), fun hflag => ?_⟩
    have ht : t = dmaRecordSink v (dspReadTx (takeRecordFlag s)) := htick.trans (dspXmitHandshake_of_flag hflag)
    have hflag' := dmaRecordSink_handshakeFrame v (dspReadTx (takeRecordFlag s))
    obtain ⟨-, c, r, hb⟩ := recordFrame_dmaRecordSink v (dspReadTx (takeRecordFlag s))
    rw [← ht, dspReadTx_block] at hb hflag'
    exact ⟨ht, hflag', (congrArg Block.dspTx hb :), (congrArg Block.dac hb :)⟩
  · have ht : t = updBlock advanceWordCount s4 := dspXmitTick_eq htri hshake
    have hframe : TickFrame s1 s4 := tickFrame_fanOut _ _ _ _ _ _ _ _
    have hdac : dacPart s4.block = _ := fanOut_dacPart _ _ _ _ _ _ _ s1
    obtain ⟨c, r, hb⟩ := fanOut_block p.connectedToDma p.connectedToCodec p.connectedToDsp v v w (decide (w = 0)) s1
    obtain ⟨l, hl⟩ := hframe.events
    refine ⟨?_, ⟨l, by rw [ht]; exact hl⟩, ?_⟩
    · have htx : s4.block.dspTx = p := (congrArg Block.dspTx hb :)
      have htracks : s4.block.playTracks = s.block.playTracks := (congrArg Block.playTracks hb :)
      have hcount : { s4.block.dspTx with wordCount := (s4.block.dspTx.wordCount + 1) % (s4.block.playTracks * 2) } =
          { p with wordCount := (w + 1) % (s.block.playTracks * 2) } := by rw [htx, htracks]
      exact ht.trans (congrArg (fun tx => { s4 with block := { s4.block with dspTx := tx } }) hcount)
    · rw [ht]
      exact congrArg Prod.fst (hdac.trans (dacPart_dacSink_congr (s := s) (t := s1) rfl rfl v w p.connectedToCodec))

/-! ### An ADC tick (R720, R721) -/

theorem adcSample_eq (b : Block) :
    adcSample b = (if decide (b.adc.side = .left) then b.adcBuf.left else b.adcBuf.right).getD b.adcBuf.rd 0 := by
  unfold adcSample
  cases b.adc.side <;> rfl

theorem advanceAdcRead_eq (cap : Nat) (b : Block) :
    advanceAdcRead cap b = { b with
      adcBuf := if decide (b.adc.side = .left) then b.adcBuf else { b.adcBuf with rd := (b.adcBuf.rd + 1) % cap } } := by
  unfold advanceAdcRead
  cases b.adc.side <;> rfl

theorem sideSlot_eq (x : Side) : sideSlot x = if decide (x = .left) then 0 else 1 := by cases x <;> rfl

theorem frameSync_sideSlot (x : Side) : frameSync (sideSlot x) = decide (x = .left) := by cases x <;> rfl

theorem otherSide_eq (x : Side) : otherSide x = if decide (x = .left) then .right else .left := by cases x <;> rfl

/-- Without DMA-record a fan-out to a DSP-receive port that is not tristated records the port's word and lines alone. -/
theorem fanOut_events_of_dspRx {s : State} (htri : s.block.dspRx.isTristated = false) (v vdac : Sample) (slot : Nat)
    (toCodec frame : Bool) :
    (fanOut false toCodec true v vdac slot frame s).events =
      s.events ++ [.dspWriteRx v, .dspFrameSyncIn .rx frame, .dspBitClock .rx] := by
  have hrx : (dacSink vdac slot s).block.dspRx = s.block.dspRx :=
    (congrArg Block.dspRx (dacSink_block vdac slot (.refl s)) :)
  cases toCodec <;> simp [fanOut, dspRxSink_eq, hrx, htri]

/-- Settles O44: what the tick reads and where it goes, by the side; then the fan-out. -/
theorem adcTickAlternates : Obligations.AdcTickAlternates := by
  intro s c isLeft v ring slot s1 s2 s3 s4 t
  have hs1 : updBlock (advanceAdcRead s.params.adcCap) s = s1 :=
    congrArg (fun b => { s with block := b }) (advanceAdcRead_eq _ _)
  have hfan : fanOut c.connectedToDma c.connectedToCodec c.connectedToDsp (adcSample s.block) (adcSample s.block)
      (sideSlot c.side) (frameSync (sideSlot c.side)) (updBlock (advanceAdcRead s.params.adcCap) s) = s4 := by
    rw [hs1, adcSample_eq, frameSync_sideSlot, sideSlot_eq]
    rfl
  have hdac : dacPart s4.block = _ := fanOut_dacPart _ _ _ _ _ _ _ s1
  obtain ⟨d, r, hb⟩ := fanOut_block c.connectedToDma c.connectedToCodec c.connectedToDsp v v slot isLeft s1
  have hadc : s4.block.adc = c := (congrArg Block.adc hb :)
  have hring : s4.block.adcBuf = ring := (congrArg Block.adcBuf hb :)
  have ht : t = { s4 with block := { s4.block with adc := { c with side := if isLeft then .right else .left } } } := by
    rw [show t = adcTick s from rfl, adcTick, hfan, otherSide_eq, updBlock, hadc]
  have hdac' : t.block.dac = s4.block.dac := by rw [ht]
  refine ⟨ht, by rw [ht], by rw [ht]; exact hring, ?_, fun hdma hdsp htri => ?_, fun hdma hrec h16 => ?_⟩
  · rw [hdac']
    exact congrArg Prod.fst (hdac.trans (dacPart_dacSink_congr (s := s) (t := s1) rfl rfl v slot c.connectedToCodec))
  · have hevents := fanOut_events_of_dspRx (s := s1) htri v v slot c.connectedToCodec isLeft
    rw [← hdma, ← hdsp] at hevents
    rw [ht]
    exact hevents
  · have hmemory : t.memory = (dmaRecordSink v s1).memory := by
      rw [ht]
      exact (fanOut_memory _ _ _ _ _ _ _ s1).trans (congrArg State.memory (if_pos hdma))
    rw [hmemory]
    exact dmaRecordSink_stores_word (s := s1) hrec h16 v

/-! ### Streamed frames -/

theorem tickFrame_iterate (k : Nat) (s : State) : TickFrame s (dmaPlayTick^[k] s) := by
  induction k with
  | zero => exact .refl s
  | succ k ih =>
    rw [Function.iterate_succ_apply']
    exact ih.trans (tickFrame_dmaPlayTick _)

/-- What of the play channel's configuration ticks look at. -/
structure PlayConfig where
  latches : Addr × Addr
  tracks : Nat
  format : Bool × Bool
  loopMode : Bool
  gated : Bool
  toDma : Bool
  pulses : List IrqPath

def playConfig (b : Block) : PlayConfig where
  latches := (b.latchedStartPlay, b.latchedEndPlay)
  tracks := b.playTracks
  format := (b.is16Bit, b.isStereo)
  loopMode := b.playDma.loopMode
  gated := b.playDma.connectedToDspHandshake
  toDma := b.playDma.connectedToDma
  pulses := framePulses b.playDma

/-- Ticks leave the configuration alone. -/
theorem playConfig_of_tickFrame {s t : State} (h : TickFrame s t) : playConfig t.block = playConfig s.block :=
  (congrArg playConfig h.fixed :)

/-- A tick of a running channel that is not gated. -/
theorem dmaPlayTick_of_ungated {s : State} (hrun : s.block.playDma.isRunning = true)
    (hgate : s.block.playDma.connectedToDspHandshake = false) : dmaPlayTick s = dmaPlayMove s := by
  rw [dmaPlayTick_of_moves ⟨hrun, by rw [hgate]; exact nofun⟩, takePlayFlag_of_ungated hgate]

theorem dmaPlayTick_of_stopped {s : State} (hrun : s.block.playDma.isRunning = false) : dmaPlayTick s = s :=
  dmaPlayTick_of_not_moves fun h => absurd h.1 (by rw [hrun]; exact Bool.false_ne_true)

/-- In a row of ticks of a running channel that is not gated each is one sample of the channel's record. -/
theorem playDma_tick {s u : State} (hu : TickFrame s u) (hrun : u.block.playDma.isRunning = true)
    (hgate : s.block.playDma.connectedToDspHandshake = false) :
    (dmaPlayTick u).block.playDma =
      afterSample s.block.playTracks (counterAdvance s.block.is16Bit s.block.isStereo u.block.playDma.slot)
        s.block.latchedStartPlay s.block.latchedEndPlay u.block.playDma := by
  have hconfig := playConfig_of_tickFrame hu
  simp only [playConfig, PlayConfig.mk.injEq, Prod.mk.injEq] at hconfig
  obtain ⟨⟨hstart, hstop⟩, htracks, ⟨h16, hstereo⟩, -, hgate', -, -⟩ := hconfig
  rw [dmaPlayTick_of_ungated hrun (hgate'.trans hgate), dmaPlayMove_playDma, playInc, hstart, hstop, htracks, h16, hstereo]

/-- The counter of a streaming channel moves by the same `inc` every tick. -/
theorem Streams.counterAdvance_eq {s : State} {inc len : Nat} (h : Streams s inc len) (slot : Nat) :
    counterAdvance s.block.is16Bit s.block.isStereo slot = inc := by
  rw [Machine.counterAdvance_eq]
  obtain ⟨h16, rfl⟩ | ⟨h8, hstereo, rfl⟩ := h.format
  · rw [if_pos h16]
  · rw [h8, if_neg Bool.false_ne_true, if_pos hstereo]

/-- A frame is through exactly when the count of its bytes comes to 0. -/
theorem mul_succ_mod {inc len : Nat} (k : Nat) (hlen : 0 < len) (hwhole : len % inc = 0) :
    inc * (k + 1) % len = if inc * k % len + inc < len then inc * k % len + inc else 0 := by
  obtain ⟨m, rfl⟩ := Nat.dvd_of_mod_eq_zero hwhole
  have hinc : 0 < inc := Nat.pos_of_mul_pos_right hlen
  have hm : 0 < m := Nat.pos_of_mul_pos_left hlen
  have hbelow := Nat.mul_lt_mul_left (b := k % m + 1) (c := m) hinc
  rw [Nat.mul_mod_mul_left, Nat.mul_mod_mul_left, ← Nat.mul_succ]
  split
  · next hlt => rw [← Nat.mod_add_mod, Nat.mod_eq_of_lt (hbelow.1 hlt)]
  · next hge =>
    have hmod := Nat.mod_lt k hm
    have hend : k % m + 1 = m := Nat.le_antisymm hmod (Nat.not_lt.1 (mt hbelow.2 hge))
    rw [← Nat.mod_add_mod, hend, Nat.mod_self, Nat.mul_zero]

/-- Settles O46: by induction on the ticks; a frame that is through is loaded anew from the same latches. -/
theorem loopedFrameRepeats : Obligations.LoopedFrameRepeats := by
  intro s inc len k h hloop
  induction k with
  | zero => exact ⟨h.atStart.trans (Nat.zero_mod len).symm, h.running, rfl, rfl⟩
  | succ k ih =>
    obtain ⟨hcounter, hrun, hstart, hlen⟩ := ih
    have hu := tickFrame_iterate k s
    have hloop' := (congrArg PlayConfig.loopMode (playConfig_of_tickFrame hu)).trans hloop
    have htick := playDma_tick hu hrun h.ungated
    rw [h.counterAdvance_eq, afterSample, hcounter, hlen, h.bytes] at htick
    rw [Function.iterate_succ_apply']
    dsimp only
    rw [htick, mul_succ_mod k h.nonempty h.whole]
    split
    · exact ⟨congrArg (· + inc) hcounter, hrun, hstart, hlen⟩
    · rw [frameOver_loop (c := movedOn _ _ _) hloop']
      exact ⟨rfl, hrun, h.start.symm, by rw [h.length, h.start, h.stop]⟩

/-! ### A one-shot frame -/

theorem pulses_append (l m : List Event) : pulses (l ++ m) = pulses l ++ pulses m := List.filterMap_append

theorem pulses_map_pulseIrq (l : List IrqPath) : pulses (l.map .pulseIrq) = l := by
  rw [pulses, List.filterMap_map]
  exact List.filterMap_some

/-- Without DMA-record a sample that is sent on pulses nothing and stores no register. -/
theorem fanOut_quiet (toCodec toDsp : Bool) (v vdac : Sample) (slot : Nat) (frame : Bool) (s : State) :
    pulses (fanOut false toCodec toDsp v vdac slot frame s).events = pulses s.events ∧
      (fanOut false toCodec toDsp v vdac slot frame s).block.raw = s.block.raw := by
  have dac : (dacSink vdac slot s).block.raw = s.block.raw := (congrArg Block.raw (dacSink_block vdac slot (.refl s)) :)
  have rx (u : State) : pulses (dspRxSink v frame u).events = pulses u.events := by
    cases htri : u.block.dspRx.isTristated with
    | true => rw [dspRxSink, if_pos htri]
    | false =>
      rw [dspRxSink_eq htri, pulses_append]
      exact List.append_nil _
  cases toCodec <;> cases toDsp <;> simp [fanOut, rx, dac]

/-- A play tick that does not feed DMA-record pulses nothing and stores no register before its channel moves on. -/
theorem playFed_quiet {s : State} (hdma : s.block.playDma.connectedToDma = false) :
    pulses (playFed s).events = pulses s.events ∧ (playFed s).block.raw = s.block.raw := by
  have hread (a : Addr) : pulses (readPlaySample a s).events = pulses s.events := by
    rw [readPlaySample_events, pulses_append]
    split <;> exact List.append_nil _
  rw [playFed, hdma]
  obtain ⟨hpulses, hraw⟩ := fanOut_quiet s.block.playDma.connectedToCodec s.block.playDma.connectedToDsp _ _
    s.block.playDma.slot (frameSync s.block.playDma.slot) (readPlaySample (effectiveAddr s.block.playDma) s)
  exact ⟨hpulses.trans (hread _), hraw.trans (by rw [readPlaySample_block])⟩

/-- Part of the way through its frame a one-shot channel has changed no register and pulsed nothing. -/
structure MidFrame (s t : State) (pos : Nat) : Prop where
  running : t.block.playDma.isRunning = true
  counter : t.block.playDma.frameCounter = pos
  length : t.block.playDma.frameLen = s.block.playDma.frameLen
  pulses : pulses t.events = pulses s.events
  raw : t.block.raw = s.block.raw

/-- After its frame it has stopped, its run bit is clear, and the paths enabled are pulsed once. -/
structure FrameDone (s t : State) : Prop where
  stopped : t.block.playDma.isRunning = false
  counter : t.block.playDma.frameCounter = 0
  pulses : pulses t.events = pulses s.events ++ framePulses s.block.playDma
  raw : t.block.raw = { s.block.raw with dmaControl := s.block.raw.dmaControl &&&
    ~~~(1#8 <<< (s.params.layout.playRun : Nat)) }

theorem midFrame_playFed {s u : State} {pos : Nat} (hdma : u.block.playDma.connectedToDma = false)
    (h : MidFrame s u pos) : MidFrame s (playFed u) pos := by
  obtain ⟨hpulses, hraw⟩ := playFed_quiet hdma
  have hplay := playFed_playDma u
  exact ⟨by rw [hplay, h.running], by rw [hplay, h.counter], by rw [hplay, h.length], hpulses.trans h.pulses,
    hraw.trans h.raw⟩

/-- Moving on within the frame. -/
theorem midFrame_advanceChannel {s w : State} {inc pos : Nat} (h : MidFrame s w pos)
    (hlt : pos + inc < s.block.playDma.frameLen.toNat) : MidFrame s (advanceChannel .play inc w) (pos + inc) := by
  rw [← h.counter, ← h.length] at hlt
  rw [advanceChannel_eq, if_pos (by exact hlt)]
  exact ⟨h.running, congrArg (· + inc) h.counter, h.length, h.pulses, h.raw⟩

/-- Moving on to the end of the frame. -/
theorem frameDone_advanceChannel {s w : State} {inc pos : Nat} (h : MidFrame s w pos) (hw : TickFrame s w)
    (hloop : s.block.playDma.loopMode = false) (hge : s.block.playDma.frameLen.toNat ≤ pos + inc) :
    FrameDone s (advanceChannel .play inc w) := by
  have hconfig := playConfig_of_tickFrame hw
  simp only [playConfig, PlayConfig.mk.injEq] at hconfig
  obtain ⟨-, -, -, hloop', -, -, hpulses⟩ := hconfig
  have hloop'' : (dmaOf .play (updDma .play (movedOn (tracksOf .play w.block) inc) w).block).loopMode = false :=
    hloop'.trans hloop
  rw [← h.counter, ← h.length] at hge
  rw [advanceChannel_eq, if_neg (Nat.not_lt.2 (by exact hge)), endOfFrame_eq, hloop'']
  have hevents : pulses (w.events ++ (framePulses w.block.playDma).map .pulseIrq ++ []) =
      pulses s.events ++ framePulses s.block.playDma := by
    rw [List.append_nil, pulses_append, pulses_map_pulseIrq, h.pulses, hpulses]
  have hraw : { w.block.raw with dmaControl := clearRunField w.params.layout .play w.block.raw.dmaControl } =
      { s.block.raw with dmaControl := clearRunField s.params.layout .play s.block.raw.dmaControl } := by
    rw [h.raw, hw.params]
  exact ⟨rfl, rfl, hevents, hraw⟩

/-- A tick of a streaming channel sends a sample on, then moves on by `inc`. -/
theorem Streams.dmaPlayTick_eq {s u : State} {inc len : Nat} (h : Streams s inc len) (hu : TickFrame s u)
    (hrun : u.block.playDma.isRunning = true) : dmaPlayTick u = advanceChannel .play inc (playFed u) := by
  have hconfig := playConfig_of_tickFrame hu
  simp only [playConfig, PlayConfig.mk.injEq, Prod.mk.injEq] at hconfig
  obtain ⟨-, -, ⟨h16, hstereo⟩, -, hgate, -, -⟩ := hconfig
  rw [dmaPlayTick_of_ungated hrun (hgate.trans h.ungated), dmaPlayMove_eq, playInc, h16, hstereo, h.counterAdvance_eq]

/-- Settles O47: by induction on the ticks, which come to the frame's end once. -/
theorem oneShotFrameEndsOnce : Obligations.OneShotFrameEndsOnce := by
  intro s inc len k h hloop hdma
  have progress : (inc * k < len → MidFrame s (dmaPlayTick^[k] s) (inc * k)) ∧
      (len ≤ inc * k → FrameDone s (dmaPlayTick^[k] s)) := by
    induction k with
    | zero => exact ⟨fun _ => ⟨h.running, h.atStart, rfl, rfl, rfl⟩, fun hle => absurd h.nonempty (Nat.not_lt.2 hle)⟩
    | succ k ih =>
      obtain ⟨before, after⟩ := ih
      have hu := tickFrame_iterate k s
      rw [Function.iterate_succ_apply', Nat.mul_succ]
      by_cases hmid : inc * k < len
      · have hnow := before hmid
        have hdma' := (congrArg PlayConfig.toDma (playConfig_of_tickFrame hu)).trans hdma
        have hfed := midFrame_playFed hdma' hnow
        rw [h.dmaPlayTick_eq hu hnow.running]
        exact ⟨fun hlt => midFrame_advanceChannel hfed (h.bytes ▸ hlt),
          fun hle => frameDone_advanceChannel hfed (hu.trans (tickFrame_playFed _)) hloop (h.bytes ▸ hle)⟩
      · have hdone := after (Nat.not_lt.1 hmid)
        rw [dmaPlayTick_of_stopped hdone.stopped]
        exact ⟨fun hlt => absurd (Nat.lt_of_le_of_lt (Nat.le_add_right _ _) hlt) hmid, fun _ => hdone⟩
  obtain ⟨before, after⟩ := progress
  exact ⟨fun hlt => ⟨(before hlt).running, (before hlt).counter, (before hlt).pulses, (before hlt).raw⟩,
    fun hle => ⟨(after hle).stopped, (after hle).counter, (after hle).pulses, (after hle).raw,
      dmaPlayTick_of_stopped (after hle).stopped⟩⟩

/-! ### 8-bit mono (R703) -/

/-- Settles O48: the counter moves on odd slots only, and ticks alternate the slot's parity. -/
theorem monoAdvancesEveryOtherTick : Obligations.MonoAdvancesEveryOtherTick := by
  intro s hrun hgate h8 hmono hlen
  have progress (k : Nat) (hk : k ≤ 8) :
      let c := (dmaPlayTick^[k] s).block.playDma
      c.isRunning = true ∧ c.slot % 2 = (s.block.playDma.slot + k) % 2 ∧ c.frameLen = s.block.playDma.frameLen ∧
        c.frameCounter = s.block.playDma.frameCounter + (s.block.playDma.slot % 2 + k) / 2 := by
    induction k with
    | zero =>
      refine ⟨hrun, rfl, rfl, ?_⟩
      rw [Function.iterate_zero_apply]
      omega
    | succ k ih =>
      obtain ⟨hrun', hslot, hlen', hcounter⟩ := ih (by omega)
      have htick := playDma_tick (tickFrame_iterate k s) hrun' hgate
      rw [counterAdvance_eq, h8, hmono, if_neg Bool.false_ne_true, if_neg Bool.false_ne_true, afterSample, hcounter,
        hslot, hlen', if_pos (by omega)] at htick
      rw [Function.iterate_succ_apply']
      dsimp only
      rw [htick]
      refine ⟨hrun', ?_, hlen', ?_⟩
      · have hparity := Nat.mod_mod_of_dvd ((dmaPlayTick^[k] s).block.playDma.slot + 1)
          (Nat.dvd_mul_left 2 s.block.playTracks)
        exact hparity.trans (by omega)
      · exact (congrArg (· + (s.block.playDma.slot + k) % 2) hcounter).trans (by omega)
  obtain ⟨-, -, -, hcounter⟩ := progress 8 (Nat.le_refl 8)
  rw [hcounter]
  omega

/-! ### What a fire leaves alone -/

theorem setOsc_setOsc (x : OscId) (o q : Osc) (b : Block) : setOsc x o (setOsc x q b) = setOsc x o b := by cases x <;> rfl

theorem setOsc_oscOf (x : OscId) (b : Block) : setOsc x (oscOf x b) b = b := by cases x <;> rfl

/-- A fire of an oscillator changes of the block's fixed part that oscillator alone, and nothing around the block but
memory, the DSP's words, the draws and the events. -/
theorem fire_fixed {x : OscId} {subflows : State → State} (hsub : ∀ u, TickFrame u (subflows u)) {e : Nat} {s t : State}
    (h : fire x subflows e s = .ok t) :
    fixedPart s.params.layout (setOsc x (oscOf x s.block) t.block) = fixedPart s.params.layout s.block ∧
      t.params = s.params ∧ t.hasReset = s.hasReset ∧ t.stream = s.stream ∧ t.results = s.results := by
  obtain ⟨-, rfl⟩ | ⟨-, -, rfl⟩ := fire_ok hsub h
  · exact ⟨by rw [emit_block, setOsc_oscOf], rfl, rfl, rfl, rfl⟩
  · have hframe := (tickFrame_emit .acknowledge s).trans (hsub _)
    have hosc := oscOf_of_clockState (clockState_of_tickFrame hframe) x
    refine ⟨?_, hframe.params, hframe.hasReset, hframe.stream, hframe.results⟩
    rw [fired, emit_block, updBlock_block, setOsc_setOsc, ← hosc, setOsc_oscOf, hframe.fixed]

/-- Settles O58: the fixed part of the block is what no sub-flow changes. -/
theorem firesLeaveConfigurationAlone : Obligations.FiresLeaveConfigurationAlone := by
  refine fun s t e => ⟨fun h => ?_, fun h => ?_⟩
  · obtain ⟨-, -, h⟩ := whenReady_next h
    exact fire_fixed tickFrame_fireASubflows (finish_next.1 h)
  · obtain ⟨-, -, h⟩ := whenReady_next h
    exact fire_fixed tickFrame_fireBSubflows (finish_next.1 h)

/-! ### One sample for DMA-record in a fire (R737) -/

/-- Whether DMA-record takes a sample, how wide, and where it goes. -/
def recordTarget (b : Block) : Bool × Bool × Addr := (b.recDma.isRunning, b.is16Bit, effectiveAddr b.recDma)

/-- From `s` to `t` DMA-record took no sample. -/
structure Unrecorded (s t : State) : Prop where
  memory : t.memory = s.memory
  target : recordTarget t.block = recordTarget s.block

/-- From `s` to `t` memory changes at the record address of `s` at most, and there only if the channel runs. -/
structure StoresAtRecord (s t : State) : Prop where
  stopped : s.block.recDma.isRunning = false → t.memory = s.memory
  elsewhere : ∀ b : Addr, b ≠ effectiveAddr s.block.recDma →
    (s.block.is16Bit = true → b ≠ effectiveAddr s.block.recDma + 1) →
    memLookup t.memory b.toNat = memLookup s.memory b.toNat

theorem Unrecorded.refl (s : State) : Unrecorded s s := ⟨rfl, rfl⟩

theorem Unrecorded.trans {s t u : State} (h : Unrecorded s t) (k : Unrecorded t u) : Unrecorded s u :=
  ⟨k.memory.trans h.memory, k.target.trans h.target⟩

theorem Unrecorded.ite (c : Prop) [Decidable c] {s t u : State} (h : Unrecorded s t) (k : Unrecorded s u) :
    Unrecorded s (if c then t else u) := by split <;> assumption

theorem Unrecorded.stores {s t : State} (h : Unrecorded s t) : StoresAtRecord s t :=
  ⟨fun _ => h.memory, fun _ _ _ => by rw [h.memory]⟩

theorem Unrecorded.trans_stores {s t u : State} (h : Unrecorded s t) (k : StoresAtRecord t u) : StoresAtRecord s u := by
  have htarget := h.target
  simp only [recordTarget, Prod.mk.injEq] at htarget
  obtain ⟨hrun, h16, haddr⟩ := htarget
  obtain ⟨hstopped, helsewhere⟩ := k
  rw [hrun, h.memory] at hstopped
  rw [h16, haddr, h.memory] at helsewhere
  exact ⟨hstopped, helsewhere⟩

theorem StoresAtRecord.of_memory {s t u : State} (h : StoresAtRecord s t) (hm : u.memory = t.memory) :
    StoresAtRecord s u := ⟨fun hs => hm.trans (h.stopped hs), fun b hb hb1 => by rw [hm]; exact h.elsewhere b hb hb1⟩

theorem StoresAtRecord.ite (c : Prop) [Decidable c] {s t u : State} (h : StoresAtRecord s t) (k : StoresAtRecord s u) :
    StoresAtRecord s (if c then t else u) := by split <;> assumption

theorem storesAtRecord_dmaRecordSink (v : Sample) (s : State) : StoresAtRecord s (dmaRecordSink v s) := by
  refine ⟨fun h => by rw [dmaRecordSink_of_stopped h], fun b hb hb1 => ?_⟩
  cases h : s.block.recDma.isRunning with
  | false => rw [dmaRecordSink_of_stopped h]
  | true =>
    rw [dmaRecordSink_memory h]
    exact memLookup_recordStore_other hb hb1 v

theorem storesAtRecord_fanOut (toDma toCodec toDsp : Bool) (v vdac : Sample) (slot : Nat) (frame : Bool) (s : State) :
    StoresAtRecord s (fanOut toDma toCodec toDsp v vdac slot frame s) :=
  (StoresAtRecord.ite (toDma = true) (storesAtRecord_dmaRecordSink v s) (Unrecorded.refl s).stores).of_memory
    (fanOut_memory _ _ _ _ _ _ _ _)

theorem unrecorded_emit (e : Event) (s : State) : Unrecorded s (emit e s) := ⟨rfl, rfl⟩

theorem unrecorded_updBlock {f : Block → Block} (s : State) (h : recordTarget (f s.block) = recordTarget s.block) :
    Unrecorded s (updBlock f s) := ⟨rfl, h⟩

theorem unrecorded_clearHandshake (ch : Chan) (s : State) :
    Unrecorded s (updDma ch (fun c => { c with handshakeFrame := false }) s) := ⟨rfl, by cases ch <;> rfl⟩

theorem unrecorded_dspReadTx (s : State) : Unrecorded s (dspReadTx s) := by
  refine ⟨?_, by rw [dspReadTx_block]⟩
  rw [dspReadTx_eq]

theorem unrecorded_readPlaySample (a : Addr) (s : State) : Unrecorded s (readPlaySample a s) := by
  refine ⟨?_, by rw [readPlaySample_block]⟩
  unfold readPlaySample readSampleWord
  split <;> simp

theorem unrecorded_fanOut (toCodec toDsp : Bool) (v vdac : Sample) (slot : Nat) (frame : Bool) (s : State) :
    Unrecorded s (fanOut false toCodec toDsp v vdac slot frame s) := by
  have dac : Unrecorded s (dacSink vdac slot s) := .ite _ ⟨rfl, rfl⟩ (.ite _ ⟨rfl, rfl⟩ (.refl s))
  have rx (u : State) : Unrecorded u (dspRxSink v frame u) := ⟨dspRxSink_memory v frame u, by rw [dspRxSink_block]⟩
  exact (Unrecorded.ite (toCodec = true) dac (.refl s)).trans (.ite (toDsp = true) (rx _) (.refl _))

theorem unrecorded_advanceChannel (inc : Nat) (s : State) : Unrecorded s (advanceChannel .play inc s) := by
  obtain ⟨r, hb⟩ := advanceChannel_block .play inc s
  exact ⟨advanceChannel_memory _ _ _, by rw [hb]; rfl⟩

/-- A stretch of a fire in which at most one sample, and only with `wired`, goes to DMA-record. -/
structure RecordTick (wired : Bool) (s t : State) : Prop where
  stores : StoresAtRecord s t
  quiet : wired = false → Unrecorded s t

theorem RecordTick.of_unrecorded {p : Bool} {s t : State} (h : Unrecorded s t) : RecordTick p s t := ⟨h.stores, fun _ => h⟩

theorem RecordTick.ite (c : Prop) [Decidable c] {p : Bool} {s t u : State} (h : RecordTick p s t) (k : RecordTick p s u) :
    RecordTick p s (if c then t else u) := by split <;> assumption

/-- Of two stretches in a row at most one is wired. -/
theorem RecordTick.trans {p q : Bool} {s t u : State} (h : RecordTick p s t) (k : RecordTick q t u)
    (hone : p = true → q = false) : RecordTick (p || q) s u := by
  refine ⟨?_, fun hpq => ?_⟩
  · cases p with
    | false => exact (h.quiet rfl).trans_stores k.stores
    | true => exact h.stores.of_memory (k.quiet (hone rfl)).memory
  · obtain ⟨hp, hq⟩ := Bool.or_eq_false_iff.1 hpq
    exact (h.quiet hp).trans (k.quiet hq)

theorem recordTick_fanOut (toDma toCodec toDsp : Bool) (v vdac : Sample) (slot : Nat) (frame : Bool) (s : State) :
    RecordTick toDma s (fanOut toDma toCodec toDsp v vdac slot frame s) :=
  ⟨storesAtRecord_fanOut _ _ _ _ _ _ _ _, fun h => h ▸ unrecorded_fanOut _ _ _ _ _ _ _⟩

/-- A sample goes to DMA-record between steps that leave it alone. -/
theorem RecordTick.between {p : Bool} {s t u w : State} (h : Unrecorded s t) (k : RecordTick p t u) (l : Unrecorded u w) :
    RecordTick p s w :=
  ⟨(h.trans_stores k.stores).of_memory l.memory, fun hp => (h.trans (k.quiet hp)).trans l⟩

/-- Whether a source reaches DMA-record: DSP-transmit by either path, DMA-play, the ADC. -/
def txWired (b : Block) : Bool := b.dspTx.connectedToDma || b.dspTx.connectedToDmaHandshake
def playWired (b : Block) : Bool := b.playDma.connectedToDma
def adcWired (b : Block) : Bool := b.adc.connectedToDma

theorem recordTick_dmaPlayMove (s : State) : RecordTick (playWired s.block) s (dmaPlayMove s) :=
  .between (unrecorded_readPlaySample _ s) (recordTick_fanOut _ _ _ _ _ _ _ _) (unrecorded_advanceChannel _ _)

theorem recordTick_dmaPlayTick (s : State) : RecordTick (playWired s.block) s (dmaPlayTick s) := by
  refine .ite _ (.of_unrecorded (.refl s)) (.ite _ (recordTick_dmaPlayMove s) (.ite _ (.of_unrecorded (.refl s)) ?_))
  have move := recordTick_dmaPlayMove (updDma .play (fun c => { c with handshakeFrame := false }) s)
  have hwired : playWired (updDma .play (fun c => { c with handshakeFrame := false }) s).block = playWired s.block := rfl
  rw [hwired] at move
  exact .between (unrecorded_clearHandshake .play s) move (.refl _)

theorem recordTick_dspXmitTick (s : State) : RecordTick (txWired s.block) s (dspXmitTick s) := by
  have handshake (hshake : s.block.dspTx.connectedToDmaHandshake = true) :
      RecordTick (txWired s.block) s (dspXmitHandshake s) := by
    refine ⟨?_, fun h => ?_⟩
    · exact .ite _ (Unrecorded.refl s).stores
        (((unrecorded_clearHandshake .record s).trans (unrecorded_dspReadTx _)).trans_stores
          (storesAtRecord_dmaRecordSink _ _))
    · rw [txWired, hshake, Bool.or_true] at h
      cases h
  cases htri : s.block.dspTx.isTristated with
  | true => rw [dspXmitTick, if_pos htri]; exact .of_unrecorded (.refl s)
  | false =>
    cases hshake : s.block.dspTx.connectedToDmaHandshake with
    | true => rw [dspXmitTick_handshake htri hshake]; exact handshake hshake
    | false =>
      rw [dspXmitTick_eq htri hshake, txWired, hshake, Bool.or_false]
      refine .between ?_ (recordTick_fanOut _ _ _ _ _ _ _ _) (unrecorded_updBlock _ rfl)
      exact ⟨rfl, rfl⟩

theorem recordTick_adcTick (s : State) : RecordTick (adcWired s.block) s (adcTick s) := by
  have read : Unrecorded s (updBlock (advanceAdcRead s.params.adcCap) s) :=
    unrecorded_updBlock s (by rw [advanceAdcRead_eq]; rfl)
  unfold adcTick
  exact .between read (recordTick_fanOut _ _ _ _ _ _ _ _) (unrecorded_updBlock _ rfl)

/-- The wiring of DMA-record is configuration: no sub-flow changes it. -/
def wiring (b : Block) : Bool × Bool × Bool := (txWired b, playWired b, adcWired b)

theorem wiring_of_tickFrame {s t : State} (h : TickFrame s t) : wiring t.block = wiring s.block :=
  (congrArg wiring h.fixed :)

/-- DMA-record has one source at most: its source field has one code. -/
structure OneSource (b : Block) : Prop where
  tx : txWired b = true → playWired b = false ∧ adcWired b = false
  play : playWired b = true → adcWired b = false

theorem oneSource_of_goodImage {p : Params} {b : Block} (hl : LayoutOk p.layout) (h : GoodImage p b) : OneSource b := by
  obtain ⟨hplay, htx, hadc⟩ := h.toDma
  have hcodes := hl.sourceCodes
  have hgate : b.dspTx.connectedToDmaHandshake = true →
      (selD b.raw).extractLsb' p.layout.dstRecSource 2 = p.layout.codeDspTx := by
    rw [h.recGateOfTx, h.recGate, gateOfRecord]
    intro hg
    simpa using (Bool.and_eq_true_iff.1 hg).2
  generalize (selD b.raw).extractLsb' p.layout.dstRecSource 2 = source at *
  simp only [List.nodup_cons, List.mem_cons, List.not_mem_nil, or_false, not_or] at hcodes
  obtain ⟨⟨hpt, hpa⟩, hta, -⟩ := hcodes
  have htx' : txWired b = true → source = p.layout.codeDspTx := fun h =>
    (Bool.or_eq_true_iff.1 h).elim (fun h => by simpa [htx] using h) hgate
  have hplay' (h : source ≠ p.layout.codePlay) : playWired b = false := hplay.trans (beq_false_of_ne h)
  have hadc' (h : source ≠ p.layout.codeAdc) : adcWired b = false := hadc.trans (beq_false_of_ne h)
  refine ⟨fun h => ⟨hplay' ?_, hadc' ?_⟩, fun h => hadc' ?_⟩
  · rw [htx' h]
    exact Ne.symm hpt
  · rw [htx' h]
    exact hta
  · have hsource : source = p.layout.codePlay := by simpa [playWired, hplay] using h
    rw [hsource]
    exact hpa

/-- DSP-transmit and DMA-play, the first two sub-flows of a fire, each under the condition it runs on. -/
def transmitAndPlay (c d : Prop) [Decidable c] [Decidable d] (s : State) : State :=
  let s1 := if c then dspXmitTick s else s
  if d then dmaPlayTick s1 else s1

theorem tickFrame_transmitAndPlay (c d : Prop) [Decidable c] [Decidable d] (s : State) :
    TickFrame s (transmitAndPlay c d s) :=
  (TickFrame.ite c (tickFrame_dspXmitTick s) (.refl s)).trans (.ite d (tickFrame_dmaPlayTick _) (.refl _))

theorem recordTick_transmitAndPlay {s : State} (h : OneSource s.block) (c d : Prop) [Decidable c] [Decidable d] :
    RecordTick (txWired s.block || playWired s.block) s (transmitAndPlay c d s) := by
  have first : RecordTick (txWired s.block) s (if c then dspXmitTick s else s) :=
    .ite _ (recordTick_dspXmitTick s) (.of_unrecorded (.refl s))
  have hframe : TickFrame s (if c then dspXmitTick s else s) := .ite _ (tickFrame_dspXmitTick s) (.refl s)
  unfold transmitAndPlay
  generalize (if c then dspXmitTick s else s) = u at first hframe
  have second : RecordTick (playWired u.block) u (if d then dmaPlayTick u else u) :=
    .ite _ (recordTick_dmaPlayTick u) (.of_unrecorded (.refl u))
  rw [show playWired u.block = playWired s.block from congrArg (·.2.1) (wiring_of_tickFrame hframe)] at second
  exact first.trans second fun htx => (h.tx htx).1

theorem recordTick_allThree {s : State} (h : OneSource s.block) (c d : Prop) [Decidable c] [Decidable d] :
    RecordTick (txWired s.block || playWired s.block || adcWired s.block) s (adcTick (transmitAndPlay c d s)) := by
  have last := recordTick_adcTick (transmitAndPlay c d s)
  have hwired := congrArg (·.2.2) (wiring_of_tickFrame (tickFrame_transmitAndPlay c d s))
  rw [show adcWired (transmitAndPlay c d s).block = adcWired s.block from hwired] at last
  exact (recordTick_transmitAndPlay h c d).trans last fun hbefore =>
    (Bool.or_eq_true_iff.1 hbefore).elim (fun htx => (h.tx htx).2) h.play

/-- With one source at most, the sub-flows of a fire store one sample at most. -/
theorem storesAtRecord_subflowsOf (x : OscId) {s : State} (h : OneSource s.block) :
    StoresAtRecord s (subflowsOf x s) := by
  cases x with
  | a =>
    rw [subflowsOf, fireASubflows_eq]
    exact (recordTick_allThree h _ _).stores
  | b =>
    rw [subflowsOf, fireBSubflows_eq]
    exact (recordTick_transmitAndPlay h _ _).stores

/-- Settles O59: the sub-flows send DMA-record one sample at most, and nothing else of a fire stores. -/
theorem fireStoresAtTheRecordAddressOnly : Obligations.FireStoresAtTheRecordAddressOnly := by
  intro s t i hi hinv h a
  obtain ⟨x, e, hexec⟩ := exec_of_isFire hi
  rw [hexec] at h
  obtain ⟨hvalid, hreset, h⟩ := whenReady_next h
  have himage := (imageOk_iff _ _).1 (hinv.2 hreset)
  obtain ⟨-, hlayout⟩ := (paramsValid_iff_paramsOk _).1 hvalid
  have hstores : StoresAtRecord s t := by
    obtain ⟨-, rfl⟩ | ⟨-, -, rfl⟩ := fire_ok (tickFrame_subflowsOf x) (finish_next.1 h)
    · exact (unrecorded_emit _ s).stores
    · have hone := storesAtRecord_subflowsOf x (s := emit .acknowledge s) (oneSource_of_goodImage hlayout himage)
      exact ((unrecorded_emit _ s).trans_stores hone).of_memory rfl
  exact ⟨hstores.stopped, hstores.elsewhere⟩

end Sys2Proof.Machine

/-! PROOFS. The claims of 44_host_bridge.md: the frame-sync-out events (R820, R821), snapshots (R830 to R832), the host drain
(R800 to R805), the microphone feed (R810 to R812), and that every step keeps what R832 asks of an image. -/

namespace Sys2Proof.Machine

/-! ### Frame-sync events and snapshots (R820, R821, R830 to R832) -/

/-- Settles O51: each event sets its flag and reads nothing of the channel. -/
theorem frameSyncOutSetsTheFlag : Obligations.FrameSyncOutSetsTheFlag :=
  fun _ h => ⟨whenReady_of_ready h.1 h.2 _, whenReady_of_ready h.1 h.2 _⟩

/-- Where the machine is ready, RESTORE ends by its check of the image alone. -/
theorem exec_restore_of_ready {s : State} (h : Ready s) (img : Block) :
    exec (.restore img) s = if imageOk s.params img then .next { s with block := img } else .refused .badSnapshot := by
  have hrun : exec (.restore img) s = finish (restoreState img s) := whenReady_of_ready h.1 h.2 _
  rw [hrun, restoreState]
  split <;> rfl

/-- Settles O52: the check is the list of invariants. -/
theorem restoreReplacesTheBlock : Obligations.RestoreReplacesTheBlock := by
  intro s img h
  rw [exec_restore_of_ready h, ← imageOk_iff]
  exact ⟨fun hgood => if_pos hgood, fun hbad => if_neg hbad⟩

/-- Settles O53: the block of a state that meets the invariant is a good image of it. -/
theorem captureThenRestoreIsTheIdentity : Obligations.CaptureThenRestoreIsTheIdentity := by
  intro s h hinv
  have himage := hinv.2 h.2
  refine ⟨whenReady_of_ready h.1 h.2 _, fun t ht hp => ?_⟩
  rw [exec_restore_of_ready ht, if_pos (hp ▸ himage)]

/-! ### The host drain (R800 to R805) -/

/-- Half the sum of two samples, rounded toward zero, is in the range of a sample (R804). -/
theorem toInt_averageSamples (m d : Sample) : (averageSamples m d).toInt = (m.toInt + d.toInt).tdiv 2 := by
  have hm := m.toInt_lt
  have hm' := m.le_toInt
  have hd := d.toInt_lt
  have hd' := d.le_toInt
  have hdiv := Int.mul_tdiv_add_tmod (m.toInt + d.toInt) 2
  have hrem := Int.tmod_lt_of_pos (m.toInt + d.toInt) two_pos
  have hrem' := Int.lt_tmod_of_pos (m.toInt + d.toInt) two_pos
  rw [averageSamples, trunc16, BitVec.toInt_ofInt_eq_self (by decide)] <;> omega

/-- What the drain loop leaves after `n` of the samples: those averaged, the rest as they were. -/
def drained (cap : Nat) (ratio : Binary64) (dac : Ring) (mix : List StereoPair) (pos pending : Binary64) (n : Nat) :
    DrainState where
  mix := mix.mapIdx fun k m =>
    if k < n then mixPair m (ringPair dac (drainIndex cap dac.rd ((fun x => fadd x ratio)^[k] pos))) else m
  pos := (fun x => fadd x ratio)^[n] pos
  pending := (fun x => fsub x ratio)^[n] pending

theorem drained_zero (cap : Nat) (ratio : Binary64) (dac : Ring) (mix : List StereoPair) (pos pending : Binary64) :
    drained cap ratio dac mix pos pending 0 = { mix := mix, pos := pos, pending := pending } := by
  have hsame : mix.mapIdx (fun _ m => m) = mix := List.ext_getElem (by simp) (by simp)
  simp [drained, hsame]

theorem drained_succ (cap : Nat) (ratio : Binary64) (dac : Ring) (m : StereoPair) (rest : List StereoPair)
    (pos pending : Binary64) (n : Nat) :
    drained cap ratio dac (m :: rest) pos pending (n + 1) =
      let r := drained cap ratio dac rest (fadd pos ratio) (fsub pending ratio) n
      { r with mix := mixPair m (ringPair dac (drainIndex cap dac.rd pos)) :: r.mix } := by
  simp [drained, List.mapIdx_cons]

/-- The drain loop emits while a sample is pending and there is room (R802). -/
theorem drainLoop_eq_drained (cap : Nat) (ratio : Binary64) (dac : Ring) (mix : List StereoPair)
    (pos pending : Binary64) :
    ∃ n ≤ mix.length, (∀ k < n, f64Le f64One ((fun x => fsub x ratio)^[k] pending) = true) ∧
      (n = mix.length ∨ f64Le f64One ((fun x => fsub x ratio)^[n] pending) = false) ∧
      drainLoop cap ratio dac mix pos pending = drained cap ratio dac mix pos pending n := by
  induction mix generalizing pos pending with
  | nil => exact ⟨0, le_rfl, nofun, .inl rfl, rfl⟩
  | cons m rest ih =>
    unfold drainLoop
    split
    · next hfirst =>
      obtain ⟨n, hn, hpending, hend, hloop⟩ := ih (fadd pos ratio) (fsub pending ratio)
      refine ⟨n + 1, Nat.succ_le_succ hn, fun k hk => ?_, hend.imp (congrArg Nat.succ) id, ?_⟩
      · cases k with
        | zero => exact hfirst
        | succ k => exact hpending k (Nat.lt_of_succ_lt_succ hk)
      · rw [hloop, drained_succ]
    · next hfirst =>
      exact ⟨0, Nat.zero_le _, nofun, .inr (Bool.eq_false_iff.2 hfirst), (drained_zero _ _ _ _ _ _).symm⟩

/-- Settles O49: by what the loop leaves. -/
theorem hostDrainConvertsTheRate : Obligations.HostDrainConvertsTheRate := by
  intro s mix h ratio pos pending idx average
  obtain ⟨n, hn, hpending, hend, hloop⟩ := drainLoop_eq_drained s.params.dacCap ratio s.block.dac mix f64Zero
    s.block.dacPending
  refine ⟨toInt_averageSamples, n, hn, hpending, hend, ?_⟩
  have hrun : drainRun mix s = drained s.params.dacCap ratio s.block.dac mix f64Zero s.block.dacPending n := by
    rw [drainRun, drainRatio, rate_eq_tableRate]
    exact hloop
  have hexec : exec (.drain mix) s = .next (drainState mix s) := whenReady_of_ready h.1 h.2 _
  rw [hexec, drainState, hrun]
  rfl

/-! ### The microphone feed (R810 to R812) -/

/-- A finite value that is not negative, of `n` units. -/
structure HasMagnitude (x : Binary64) (n : Nat) : Prop where
  finite : x.toNat < 2047 * 2 ^ 52
  magnitude : magnitudeOfBits x.toNat = n

theorem HasMagnitude.units {x : Binary64} {n : Nat} (h : HasMagnitude x n) : f64IsFinite x = true ∧ f64Units x = n := by
  obtain ⟨hfin, hunits⟩ := finite_of_lt_inf h.finite
  exact ⟨hfin, by rw [hunits, h.magnitude]⟩

theorem hasMagnitude_of_pos {x : Binary64} (hfin : f64IsFinite x = true) (hpos : 0 < f64Units x) :
    HasMagnitude x (f64Magnitude x) := by
  obtain ⟨-, hlt, -⟩ := toNat_of_finite_pos hfin hpos
  exact ⟨hlt, (f64Magnitude_eq x (by omega)).symm⟩

/-- A sum above zero that does not reach infinity is the exact one, rounded. -/
theorem HasMagnitude.fadd_rounded {x y : Binary64} {m n : Nat} (hx : HasMagnitude x m) (hy : HasMagnitude y n)
    (hpos : 0 < m + n) (hfin : roundMagnitude (m + n) 1 < 2047 * 2 ^ 52) :
    HasMagnitude (fadd x y) (magnitudeOfBits (roundMagnitude (m + n) 1)) := by
  obtain ⟨hxfin, hxunits⟩ := hx.units
  obtain ⟨hyfin, hyunits⟩ := hy.units
  have hsum := fadd_toNat hxfin hyfin hpos (by rw [hxunits, hyunits, Nat.cast_add])
  exact ⟨hsum ▸ hfin, by rw [hsum]⟩

/-- Rounding up a sum does not pass below a summand. -/
theorem HasMagnitude.le_round {x : Binary64} {m n : Nat} (hx : HasMagnitude x m) (hle : m ≤ n)
    (hfin : roundMagnitude n 1 < 2047 * 2 ^ 52) : m ≤ magnitudeOfBits (roundMagnitude n 1) := by
  obtain ⟨hxfin, rfl⟩ := hx
  exact magnitude_le_of_bits_le hfin (bits_le_roundMagnitude hxfin.le hle)

theorem hasMagnitude_zero : HasMagnitude f64Zero 0 := ⟨by decide, by decide⟩

theorem hasMagnitude_half : HasMagnitude f64Half (2 ^ 1073) := by
  have hmag := magnitudeOfBits_add (q := 2 ^ 52) (s := 1021) (by norm_num) (.inr le_rfl)
  rw [← pow_add, show 52 + 1021 = 1073 from rfl] at hmag
  exact ⟨by decide, hmag⟩

/-- Adding to zero is exact. -/
theorem HasMagnitude.fadd_zero {x : Binary64} {n : Nat} (hx : HasMagnitude x n) (hpos : 0 < n) :
    HasMagnitude (fadd f64Zero x) n := by
  have hround : roundMagnitude n 1 = x.toNat := hx.magnitude ▸ roundMagnitude_of_bits hx.finite
  have hsum := hasMagnitude_zero.fadd_rounded hx (by omega) (by rw [Nat.zero_add, hround]; exact hx.finite)
  rwa [Nat.zero_add, hround, hx.magnitude] at hsum

/-- The nearest index is not below the position. -/
theorem HasMagnitude.floor_le_nearestIndex {x : Binary64} {m : Nat} (hx : HasMagnitude x m) :
    ((m / 2 ^ 1074 : Nat) : Int) ≤ nearestIndex x := by
  have hmax : m ≤ (2 ^ 53 - 1) * 2 ^ 2045 := hx.magnitude ▸ magnitudeOfBits_le_max hx.finite
  have hhalf : 2 ^ 1073 < 2 ^ 53 * 2 ^ 1074 := by
    rw [← pow_add]
    exact pow_lt_pow_right₀ one_lt_two (by norm_num)
  have hfin : roundMagnitude (m + 2 ^ 1073) 1 < 2047 * 2 ^ 52 :=
    Nat.add_comm _ m ▸ roundMagnitude_lt_inf hhalf hmax
  obtain ⟨hsum, hunits⟩ := (hx.fadd_rounded hasMagnitude_half (Nat.add_pos_right _ (by positivity)) hfin).units
  rw [nearestIndex, ffloor_of_finite hsum, hunits]
  exact_mod_cast Nat.div_le_div_right (c := 2 ^ 1074) (hx.le_round (Nat.le_add_right m _) hfin)

/-- A position below `2 ^ 1023` pairs and a ratio not above it have a sum that is not rounded to infinity. -/
theorem HasMagnitude.sum_finite {x : Binary64} {m n : Nat} (hx : HasMagnitude x m) (hm : m < 2 ^ 1023 * 2 ^ 1074)
    (hn : n ≤ m) : roundMagnitude (m + n) 1 < 2047 * 2 ^ 52 := by
  have hbits : x.toNat < 2046 * 2 ^ 52 := by
    by_contra hge
    have hlow := magnitude_le_of_bits_le hx.finite (not_lt.1 hge)
    rw [show 2046 = 1023 + 1023 from rfl, magnitudeOfBits_twoPow, hx.magnitude, Nat.add_comm, pow_add] at hlow
    omega
  have hmax := magnitudeOfBits_add (q := 2 ^ 53 - 1) (s := 2044) (by norm_num) (.inr (by norm_num))
  have hle : m ≤ (2 ^ 53 - 1) * 2 ^ 2044 := by
    rw [← hmax, ← hx.magnitude]
    exact magnitude_le_of_bits_le (by norm_num) (by omega)
  have := roundMagnitude_le (n := m + n) (m := 2 ^ 53 - 1) (k := 2045) one_pos (by norm_num) (.inr (by norm_num)) (by
    rw [pow_succ]
    omega)
  omega

/-- Below `2 ^ 52` ratios the position moves on by more than a quarter of the ratio: an addition is off by half an ulp of
the sum at most, which is hardly more than half the ratio. -/
theorem HasMagnitude.advance {x y : Binary64} {m n : Nat} (hx : HasMagnitude x m) (hy : HasMagnitude y n) (hpos : 0 < n)
    (hle : n ≤ m) (hm : m < 2 ^ 1023 * 2 ^ 1074) (hratios : m < 2 ^ 52 * n) :
    ∃ k, HasMagnitude (fadd x y) k ∧ n ≤ k ∧ 4 * m + n ≤ 4 * k := by
  have hfin := hx.sum_finite hm hle
  refine ⟨_, hx.fadd_rounded hy (by omega) hfin, hy.le_round (Nat.le_add_left n m) hfin, ?_⟩
  have hlt : m + n < 2 ^ (1023 + 1074 + 1) := by rw [pow_succ, pow_add]; omega
  have hlog := (Nat.log2_lt (by omega)).2 hlt
  obtain ⟨herr, -⟩ := roundMagnitude_error (by omega) (shift_upper (m + n))
  have hlow := shift_lower (q := m + n)
  generalize Nat.log2 (m + n) - 52 = e at herr hlow
  rcases Nat.eq_zero_or_pos e with rfl | he
  · omega
  · have := hlow he
    omega

/-- The position of the feed after `k` rounds. -/
def feedPos (ratio : Binary64) (k : Nat) : Binary64 := (fun x => fadd x ratio)^[k] f64Zero

theorem feedPos_succ (ratio : Binary64) (k : Nat) : feedPos ratio (k + 1) = fadd (feedPos ratio k) ratio :=
  Function.iterate_succ_apply' _ _ _

/-- Before the input is through, `k` rounds move the position by `k` quarters of the ratio at least. -/
theorem feedPos_advances {ratio : Binary64} {n count : Nat} (hratio : HasMagnitude ratio n) (hpos : 0 < n)
    (hcount : count < 2 ^ 1023) (hbound : count * 2 ^ 1074 < 2 ^ 52 * n) (k : Nat)
    (hbefore : ∀ j < k, nearestIndex (feedPos ratio j) < count) :
    ∃ m, HasMagnitude (feedPos ratio k) m ∧ k * n ≤ 4 * m ∧ (0 < k → n ≤ m) := by
  induction k with
  | zero => exact ⟨0, hasMagnitude_zero, by simp, nofun⟩
  | succ k ih =>
    obtain ⟨m, hm, hquarters, hle⟩ := ih fun j hj => hbefore j (Nat.lt_succ_of_lt hj)
    have hnear := hm.floor_le_nearestIndex.trans_lt (hbefore k k.lt_succ_self)
    have hbelow : m < count * 2 ^ 1074 := (Nat.div_lt_iff_lt_mul (by positivity)).1 (by exact_mod_cast hnear)
    rw [feedPos_succ, Nat.succ_mul]
    rcases Nat.eq_zero_or_pos k with rfl | hk
    · exact ⟨n, hratio.fadd_zero hpos, by omega, fun _ => le_rfl⟩
    · have hspace : m < 2 ^ 1023 * 2 ^ 1074 := hbelow.trans (Nat.mul_lt_mul_of_pos_right hcount (by positivity))
      obtain ⟨j, hj, hnj, hmore⟩ := hm.advance hratio hpos (hle hk) hspace (hbelow.trans hbound)
      exact ⟨j, hj, by omega, fun _ => hnj⟩

/-- The rounds the model runs are enough to pass the input (R812). -/
theorem feed_ends {ratio : Binary64} {count : Nat} (hfin : f64IsFinite ratio = true) (hcount : count < 2 ^ 1023)
    (hbound : (count : Int) * 2 ^ 1074 < 2 ^ 52 * f64Units ratio) :
    ∃ n ≤ feedRounds count ratio, (∀ k < n, nearestIndex (feedPos ratio k) < count) ∧
      count ≤ nearestIndex (feedPos ratio n) := by
  have hunits : 0 < f64Units ratio := by
    have : (0 : Int) ≤ count * 2 ^ 1074 := mul_nonneg (Int.natCast_nonneg _) (pow_nonneg zero_le_two _)
    omega
  have hratio := hasMagnitude_of_pos hfin hunits
  rw [hratio.units.2] at hbound hunits
  have hpasses : ∃ k ≤ feedRounds count ratio, count ≤ nearestIndex (feedPos ratio k) := by
    by_contra hnever
    push Not at hnever
    obtain ⟨m, hm, hquarters, -⟩ := feedPos_advances hratio (by exact_mod_cast hunits) hcount
      (by exact_mod_cast hbound) _ fun j hj => hnever j hj.le
    have hnear := hm.floor_le_nearestIndex.trans_lt (hnever _ le_rfl)
    have hbelow : m < count * 2 ^ 1074 := (Nat.div_lt_iff_lt_mul (by positivity)).1 (by exact_mod_cast hnear)
    have hrounds := Nat.lt_mul_div_succ ((count + 1) * 2 ^ 1074) (b := f64Magnitude ratio) (by exact_mod_cast hunits)
    rw [feedRounds, if_pos hfin, Nat.shiftLeft_eq, Nat.mul_assoc, Nat.mul_comm (_ / _ + 1)] at hquarters
    omega
  obtain ⟨k, hk, hpast⟩ := hpasses
  have hex : ∃ k, (count : Int) ≤ nearestIndex (feedPos ratio k) := ⟨k, hpast⟩
  exact ⟨Nat.find hex, (Nat.find_min' hex hpast).trans hk, fun j hj => not_le.1 (Nat.find_min hex hj), Nat.find_spec hex⟩

/-- With rounds enough, the feed writes one pair for each position before the input is through. -/
theorem feedLoop_eq_foldl {rounds cap n : Nat} {ratio : Binary64} {samples : List StereoPair} {r : Ring} {pos : Binary64}
    (hn : n ≤ rounds)
    (hbefore : ∀ k < n, nearestIndex ((fun x => fadd x ratio)^[k] pos) < samples.length)
    (hpast : (samples.length : Int) ≤ nearestIndex ((fun x => fadd x ratio)^[n] pos)) :
    feedLoop rounds cap ratio samples r pos =
      (List.range n).foldl
        (fun r k => feedPair cap (samples.getD (nearestIndex ((fun x => fadd x ratio)^[k] pos)).toNat (0, 0)) r) r := by
  induction n generalizing rounds r pos with
  | zero =>
    cases rounds with
    | zero => rfl
    | succ rounds => exact if_pos hpast
  | succ n ih =>
    obtain ⟨rounds, rfl⟩ := Nat.exists_eq_add_one_of_ne_zero (Nat.ne_of_gt (Nat.lt_of_lt_of_le n.succ_pos hn))
    have hfirst : nearestIndex pos < samples.length := hbefore 0 n.succ_pos
    rw [feedLoop, if_neg (not_le.2 hfirst), List.range_succ_eq_map, List.foldl_cons, List.foldl_map,
      ih (Nat.le_of_succ_le_succ hn) (fun k hk => hbefore (k + 1) (Nat.succ_lt_succ hk)) hpast]
    rfl

theorem feedTooLong_iff {count : Nat} {ratio : Binary64} (hfin : f64IsFinite ratio = true) :
    feedTooLong count ratio = true ↔ 2 ^ 52 * f64Units ratio ≤ (count : Int) * 2 ^ 1074 := by
  simp only [feedTooLong, hfin, Bool.true_and, decide_eq_true_eq, Nat.shiftLeft_eq, Nat.cast_mul, Nat.cast_pow,
    Nat.cast_ofNat]

/-- Settles O50: beyond the bound the check refuses; below it the rounds the model runs are enough. -/
theorem microphoneFeedConvertsTheRate : Obligations.MicrophoneFeedConvertsTheRate := by
  intro s l h ratio pos near hfin hlen
  have hratio : feedRatio s = ratio := by rw [feedRatio, rate_eq_tableRate]
  have hexec : exec (.mic l) s = finish (feedState l s) := whenReady_of_ready h.1 h.2 _
  rw [hexec, feedState, hratio]
  refine ⟨fun hlong => ?_, fun hbound => ?_⟩
  · rw [if_pos ((feedTooLong_iff hfin).2 hlong), finish_error]
  · obtain ⟨n, hn, hbefore, hpast⟩ := feed_ends hfin hlen hbound
    refine ⟨n, hbefore, hpast, ?_⟩
    rw [if_neg (mt (feedTooLong_iff hfin).1 (not_le.2 hbound)), finish_ok]
    exact congrArg (fun r => Host.Outcome.next { s with block := { s.block with adcBuf := r } })
      (feedLoop_eq_foldl hn hbefore hpast)

/-! ### What the invariant asks of one channel -/

/-- What the invariant asks of a channel's record by itself. -/
structure GoodChannel (c : DmaChannel) : Prop where
  slot : c.slot < 8
  even : c.frameStart.toNat % 2 = 0 ∧ c.frameEnd.toNat % 2 = 0 ∧ c.frameLen.toNat % 2 = 0
  length : c.frameLen = c.frameEnd - c.frameStart
  counter : c.isRunning = true → c.frameCounter < c.frameLen.toNat + 2

theorem GoodImage.goodChannel {p : Params} {b : Block} (h : GoodImage p b) (ch : Chan) : GoodChannel (dmaOf ch b) := by
  obtain ⟨hplay, hrec, -⟩ := h.slots
  cases ch with
  | play => exact ⟨hplay, h.playEven, h.playLength, h.playCounter⟩
  | record => exact ⟨hrec, h.recEven, h.recLength, h.recCounter⟩

theorem GoodImage.latchedStart_even {p : Params} {b : Block} (h : GoodImage p b) (ch : Chan) :
    (latchedStart ch b).toNat % 2 = 0 := by
  obtain ⟨hplay, hrec⟩ := h.startsEven
  cases ch <;> assumption

theorem GoodImage.latchedEnd_even {p : Params} {b : Block} (h : GoodImage p b) (ch : Chan) :
    (latchedEnd ch b).toNat % 2 = 0 := by
  obtain ⟨hplay, hrec⟩ := h.stopsEven
  cases ch <;> assumption

/-- The track count of a channel is a two-bit field plus one. -/
theorem GoodImage.tracksOf_bounds {p : Params} {b : Block} (h : GoodImage p b) (ch : Chan) :
    1 ≤ tracksOf ch b ∧ tracksOf ch b ≤ 4 := by
  obtain ⟨hplay, hrec⟩ := h.tracks
  have field (v : BitVec 2) : 1 ≤ v.toNat + 1 ∧ v.toNat + 1 ≤ 4 := ⟨Nat.succ_pos _, v.isLt⟩
  cases ch with
  | play => rw [tracksOf_play, hplay]; exact field _
  | record => rw [tracksOf_record, hrec]; exact field _

/-- A frame between even bounds, its counter at the start (43 R731). -/
theorem GoodChannel.loaded {c : DmaChannel} (h : GoodChannel c) {start stop : Addr} (hstart : start.toNat % 2 = 0)
    (hstop : stop.toNat % 2 = 0) :
    GoodChannel { c with frameStart := start, frameEnd := stop, frameLen := stop - start, frameCounter := 0 } :=
  ⟨h.slot, ⟨hstart, hstop, frameLen_even hstart hstop⟩, rfl, fun _ => Nat.succ_pos _⟩

theorem GoodChannel.stopped {c : DmaChannel} (h : GoodChannel c) :
    GoodChannel { c with isRunning := false, frameCounter := 0 } := { h with counter := nofun }

/-- A channel started or stopped by its run bit takes even bounds, or its frame stays. -/
theorem GoodChannel.edge {c : DmaChannel} (h : GoodChannel c) (run : Bool) {start stop : Addr}
    (hstart : start.toNat % 2 = 0) (hstop : stop.toNat % 2 = 0) : GoodChannel (edgeChannel run start stop c) := by
  unfold edgeChannel
  split
  · exact { h.loaded hstart hstop with slot := Nat.succ_pos 7, counter := fun _ => Nat.succ_pos _ }
  · split
    · exact h.stopped
    · exact h

theorem edgeChannel_isRunning (run : Bool) (start stop : Addr) (c : DmaChannel) :
    (edgeChannel run start stop c).isRunning = run := by
  cases run <;> cases hrun : c.isRunning <;> simp [edgeChannel, hrun]

/-! ### A channel's record replaced -/

/-- The configuration of channel `c` with the progress of `d`: frame, counter, slot, run and handshake flags. -/
def withProgress (c d : DmaChannel) : DmaChannel :=
  { c with
    frameStart := d.frameStart, frameEnd := d.frameEnd, frameLen := d.frameLen, frameCounter := d.frameCounter
    isRunning := d.isRunning, slot := d.slot, handshakeFrame := d.handshakeFrame }

theorem edgeChannel_eq_withProgress (run : Bool) (start stop : Addr) (c : DmaChannel) :
    edgeChannel run start stop c = withProgress c (edgeChannel run start stop c) := by
  unfold edgeChannel
  split
  · rfl
  · split <;> rfl

theorem GoodImage.withPlay {p : Params} {b : Block} (h : GoodImage p b) {c : DmaChannel} (hc : GoodChannel c)
    (hrun : c.isRunning = b.playDma.isRunning) : GoodImage p { b with playDma := withProgress b.playDma c } :=
  { h with
    slots := ⟨hc.slot, h.slots.2⟩, playEven := hc.even, playRun := hrun.trans h.playRun, playLength := hc.length
    playCounter := hc.counter }

theorem GoodImage.withRecord {p : Params} {b : Block} (h : GoodImage p b) {c : DmaChannel} (hc : GoodChannel c)
    (hrun : c.isRunning = b.recDma.isRunning) : GoodImage p { b with recDma := withProgress b.recDma c } :=
  { h with
    slots := ⟨h.slots.1, hc.slot, h.slots.2.2⟩, recEven := hc.even, recRun := hrun.trans h.recRun, recLength := hc.length
    recCounter := hc.counter }

/-- A channel may move on in any good way that leaves its configuration and its run flag alone. -/
theorem GoodImage.mapDma {p : Params} {b : Block} (h : GoodImage p b) {ch : Chan} {f : DmaChannel → DmaChannel}
    (hconfig : ∀ c, f c = withProgress c (f c)) (hc : GoodChannel (f (dmaOf ch b)))
    (hrun : (f (dmaOf ch b)).isRunning = (dmaOf ch b).isRunning) : GoodImage p (mapDma ch f b) := by
  cases ch with
  | play => rw [mapDma_play, hconfig]; exact h.withPlay hc hrun
  | record => rw [mapDma_record, hconfig]; exact h.withRecord hc hrun

/-- A new DMA-control byte, decoded, with both channels running as it says. -/
theorem GoodImage.withDmaControl {p : Params} {b : Block} (h : GoodImage p b) {d : Byte} {c e : DmaChannel}
    (hc : GoodChannel c) (he : GoodChannel e) (hcrun : c.isRunning = playRunField p.layout d)
    (herun : e.isRunning = recRunField p.layout d) :
    GoodImage p (decodeDmaControl p.layout { b with
      raw := { b.raw with dmaControl := d }
      playDma := withProgress b.playDma c
      recDma := withProgress b.recDma e }) :=
  { h with
    slots := ⟨hc.slot, he.slot, h.slots.2.2⟩, playEven := hc.even, recEven := he.even, playRun := hcrun, recRun := herun
    loops := ⟨rfl, rfl⟩, selected := rfl, playLength := hc.length, recLength := he.length, playCounter := hc.counter
    recCounter := he.counter }

/-! ### States that meet the invariant -/

/-- The parameters are sound, and the invariant holds with a reset done. -/
structure GoodState (s : State) : Prop where
  params : ParamsOk s.params
  memory : memWf s.memory = true
  image : GoodImage s.params s.block

theorem GoodState.inv {s : State} (h : GoodState s) : Inv s := ⟨h.memory, fun _ => (imageOk_iff _ _).2 h.image⟩

theorem good_of_ready {s : State} (h : Ready s) (hinv : Inv s) : GoodState s :=
  ⟨(paramsValid_iff_paramsOk _).1 h.1, hinv.1, (imageOk_iff _ _).1 (hinv.2 h.2)⟩

/-- A change of the block alone. -/
theorem GoodState.of_block {s t : State} (h : GoodState s) (hp : t.params = s.params) (hm : t.memory = s.memory)
    (hb : GoodImage s.params t.block) : GoodState t := ⟨hp ▸ h.params, hm ▸ h.memory, hp ▸ hb⟩

theorem GoodState.of_kept {s t : State} (h : GoodState s) (hp : t.params = s.params) (hm : t.memory = s.memory)
    (hb : t.block = s.block) : GoodState t := h.of_block hp hm (hb ▸ h.image)

theorem GoodState.updBlock {s : State} (h : GoodState s) {f : Block → Block} (hf : GoodImage s.params (f s.block)) :
    GoodState (updBlock f s) := h.of_block rfl rfl hf

theorem GoodState.ite (c : Prop) [Decidable c] {s t : State} (h : GoodState s) (k : GoodState t) :
    GoodState (if c then s else t) := by split <;> assumption

/-! ### Byte writes -/

theorem assembleAddr_even (h m l : Byte) : (assembleAddr h m l).toNat % 2 = 0 := by
  rw [← lowBit_clear_iff_even, assembleAddr, BitVec.getLsbD_and]
  simp

theorem goodImage_latchStart {p : Params} {b : Block} (h : GoodImage p b) : GoodImage p (latchStart b) := by
  obtain ⟨hplay, hrec⟩ := h.startsEven
  unfold latchStart
  split
  · exact { h with startsEven := ⟨assembleAddr_even _ _ _, hrec⟩ }
  · exact { h with startsEven := ⟨hplay, assembleAddr_even _ _ _⟩ }

theorem goodImage_latchEnd {p : Params} {b : Block} (h : GoodImage p b) : GoodImage p (latchEnd b) := by
  obtain ⟨hplay, hrec⟩ := h.stopsEven
  unfold latchEnd
  split
  · exact { h with stopsEven := ⟨assembleAddr_even _ _ _, hrec⟩ }
  · exact { h with stopsEven := ⟨hplay, assembleAddr_even _ _ _⟩ }

/-- A recompute keeps `consumed = floor(acc)`, whether it clears both or neither (42 R608). -/
theorem recomputedOsc_counted (p : Params) (rate : Binary64) (tracks : Nat) {o : Osc} (h : o.consumed = ffloor o.acc) :
    (recomputedOsc p rate tracks o).consumed = ffloor (recomputedOsc p rate tracks o).acc := by
  have hzero : ffloor f64Zero = 0 := by decide
  unfold recomputedOsc
  dsimp only
  split
  · exact hzero.symm
  · exact h

/-- The DMA-control byte: its edges leave both channels running as it says (40 R402). -/
theorem good_storeDmaControl {s : State} (h : GoodState s) (d : Byte) : GoodState (storeDmaControl d s) := by
  have hplay := (h.image.goodChannel .play).edge (playRunField s.params.layout d) (h.image.latchedStart_even .play)
    (h.image.latchedEnd_even .play)
  have hrec := (h.image.goodChannel .record).edge (recRunField s.params.layout d) (h.image.latchedStart_even .record)
    (h.image.latchedEnd_even .record)
  have himage := h.image.withDmaControl hplay hrec (edgeChannel_isRunning _ _ _ _) (edgeChannel_isRunning _ _ _ _)
  rw [dmaOf_play, dmaOf_record, ← edgeChannel_eq_withProgress, ← edgeChannel_eq_withProgress] at himage
  simp only [storeDmaControl, runEdge_eq_edgeChannel]
  exact h.of_block rfl rfl himage

theorem good_writeRow {row : Offset} {d : Byte} {s t : State} (h : GoodState s) (hw : writeRow row d s = .ok t) :
    GoodState t := by
  have image := h.image
  obtain ⟨hplayTracks, hrecTracks⟩ := image.tracks
  obtain ⟨hste, hdivider⟩ := image.rateIndices
  obtain ⟨hcountA, hcountB⟩ := image.counted
  by_cases hlo : row = 0x0D#6
  · subst hlo
    rw [writeRow_countLo] at hw
    split at hw
    · exact Except.ok.inj hw ▸ h.of_block rfl rfl { image with }
    · cases hw
  · unfold writeRow at hw
    split at hw
    case h_8 hn => exact absurd (BitVec.eq_of_toNat_eq hn) hlo
    all_goals obtain rfl := Except.ok.inj hw
    case h_1 => exact h.of_block rfl rfl { image with playInterrupts := ⟨rfl, rfl⟩, recInterrupts := ⟨rfl, rfl⟩ }
    case h_2 => exact good_storeDmaControl h d
    case h_3 | h_4 | h_5 => exact h.of_block rfl rfl (goodImage_latchStart { image with })
    case h_9 | h_10 | h_11 => exact h.of_block rfl rfl (goodImage_latchEnd { image with })
    case h_12 =>
      simp only [storeTrackControl, recompute_eq_recomputed]
      exact h.of_block rfl rfl { image with
        tracks := ⟨rfl, hrecTracks⟩, monitored := rfl, dacMuted := rfl, cptA := rfl, cptB := rfl
        counted := ⟨recomputedOsc_counted _ _ _ hcountA, recomputedOsc_counted _ _ _ hcountB⟩ }
    case h_13 =>
      simp only [storeSoundMode, recompute_eq_recomputed]
      exact h.of_block rfl rfl { image with
        format := ⟨rfl, rfl⟩, rateIndices := ⟨rfl, hdivider⟩, dacMuted := rfl, cptA := rfl, cptB := rfl
        counted := ⟨recomputedOsc_counted _ _ _ hcountA, recomputedOsc_counted _ _ _ hcountB⟩ }
    case h_14 | h_15 =>
      exact h.of_block rfl rfl { image with
        clockCodes := ⟨rfl, rfl⟩, dspTxBus := ⟨rfl, rfl⟩, playGate := rfl, recGate := rfl, recGateOfTx := rfl }
    case h_16 | h_17 =>
      exact h.of_block rfl rfl { image with
        dspRxBus := ⟨rfl, rfl⟩, toCodec := ⟨rfl, rfl, rfl⟩, toDsp := ⟨rfl, rfl, rfl⟩, toDma := ⟨rfl, rfl, rfl⟩
        playGate := rfl, recGate := rfl, recGateOfTx := rfl }
    case h_19 =>
      simp only [storeIntDivider, recompute_eq_recomputed]
      exact h.of_block rfl rfl { image with
        rateIndices := ⟨hste, rfl⟩, dacMuted := rfl, cptA := rfl, cptB := rfl
        counted := ⟨recomputedOsc_counted _ _ _ hcountA, recomputedOsc_counted _ _ _ hcountB⟩ }
    case h_20 => exact h.of_block rfl rfl { image with tracks := ⟨hplayTracks, rfl⟩ }
    all_goals exact h.of_block rfl rfl { image with }

theorem good_writeBytes {o : Offset} {bytes : List Byte} {s t : State} (h : GoodState s)
    (hw : writeBytes o bytes s = .ok t) : GoodState t := by
  induction bytes generalizing o s with
  | nil => exact Except.ok.inj hw ▸ h
  | cons b rest ih =>
    rw [writeBytes] at hw
    cases hb : write8 o b s with
    | error e => rw [hb] at hw; cases hw
    | ok u =>
      rw [hb] at hw
      exact ih (good_writeRow h hb) hw

/-! ### The sub-flows of a fire -/

theorem good_emit {s : State} (h : GoodState s) (e : Event) : GoodState (emit e s) := h.of_kept rfl rfl rfl

theorem good_memWrite {s : State} (h : GoodState s) (a : Addr) (v : Byte) : GoodState (memWrite a v s) :=
  { h with memory := memInsert_keeps_memWf _ a v h.memory }

theorem good_recordStore {s : State} (h : GoodState s) (v : Sample) : GoodState (recordStore v s) :=
  .ite _ (good_memWrite (good_memWrite h _ _) _ _) (good_memWrite h _ _)

theorem good_readPlaySample {s : State} (h : GoodState s) (a : Addr) : GoodState (readPlaySample a s) :=
  h.of_kept (tickFrame_readPlaySample a s).params (unrecorded_readPlaySample a s).memory (readPlaySample_block a s)

theorem good_dspReadTx {s : State} (h : GoodState s) : GoodState (dspReadTx s) := by
  rw [dspReadTx_eq]
  exact h.of_kept rfl rfl rfl

theorem good_setHandshake {s : State} (h : GoodState s) (ch : Chan) (flag : Bool) :
    GoodState (updDma ch (fun c => { c with handshakeFrame := flag }) s) :=
  h.updBlock (h.image.mapDma (fun _ => rfl) { h.image.goodChannel ch with } rfl)

theorem good_loadFrame {s : State} (h : GoodState s) (ch : Chan) : GoodState (loadFrame ch s) := by
  have load : GoodState (updBlock (loadBounds ch) s) :=
    h.updBlock (h.image.mapDma (fun _ => rfl)
      ((h.image.goodChannel ch).loaded (h.image.latchedStart_even ch) (h.image.latchedEnd_even ch)) rfl)
  exact .ite _ (good_emit load _) load

theorem getLsbD_clearBit_same (i : Fin 8) (v : Byte) : (clearBit i v).getLsbD i = false := by
  rw [getLsbD_clearBit, decide_eq_true rfl, Bool.not_true, Bool.and_false]

theorem getLsbD_clearBit_other {i j : Fin 8} (h : i ≠ j) (v : Byte) : (clearBit i v).getLsbD j = v.getLsbD j := by
  rw [getLsbD_clearBit, decide_eq_false h, Bool.not_false, Bool.and_true]

/-- An auto-stop clears the run bit of its channel, which shares no bit with the rest of the DMA-control byte (10 R104). -/
theorem good_autoStop {s : State} (h : GoodState s) (ch : Chan) : GoodState (autoStop ch s) := by
  obtain ⟨-, hlayout⟩ := h.params
  have hbits := hlayout.dmaControl
  simp only [List.nodup_cons, List.mem_cons, List.not_mem_nil, or_false, not_or] at hbits
  obtain ⟨⟨hpl, hpr, hprl, hps⟩, ⟨hlr, -, -⟩, ⟨hrl, hrs⟩, -⟩ := hbits
  have image := h.image
  obtain ⟨hloopPlay, hloopRec⟩ := image.loops
  refine h.of_block rfl rfl ?_
  cases ch with
  | play =>
    have other {i} (hi : s.params.layout.playRun ≠ i) :=
      (getLsbD_clearBit_other hi s.block.raw.dmaControl).symm
    exact { image with
      playRun := (getLsbD_clearBit_same _ _).symm
      recRun := image.recRun.trans (other hpr)
      loops := ⟨hloopPlay.trans (other hpl), hloopRec.trans (other hprl)⟩
      selected := image.selected.trans (other hps)
      playCounter := nofun }
  | record =>
    have other {i} (hi : s.params.layout.recRun ≠ i) :=
      (getLsbD_clearBit_other hi s.block.raw.dmaControl).symm
    exact { image with
      playRun := image.playRun.trans (other (Ne.symm hpr))
      recRun := (getLsbD_clearBit_same _ _).symm
      loops := ⟨hloopPlay.trans (other (Ne.symm hlr)), hloopRec.trans (other hrl)⟩
      selected := image.selected.trans (other hrs)
      recCounter := nofun }

theorem good_endOfFrame {s : State} (h : GoodState s) (ch : Chan) : GoodState (endOfFrame ch s) := by
  have pulse {u : State} (hu : GoodState u) (enabled path) : GoodState (pulseIrq enabled path u) :=
    .ite _ (good_emit hu _) hu
  have pulsed := pulse (pulse h (dmaOf ch s.block).mfpInterrupt15 .gpio) (dmaOf ch s.block).timerAInterrupt .timerA
  exact .ite _ (good_loadFrame pulsed ch) (good_autoStop pulsed ch)

theorem updDma_updDma (ch : Chan) (f g : DmaChannel → DmaChannel) (s : State) :
    updDma ch f (updDma ch g s) = updDma ch (f ∘ g) s := by cases ch <;> rfl

/-- An end of frame puts the counter back, however far it had moved. -/
theorem good_endOfFrame_of_counter {s : State} {ch : Chan}
    (h : GoodState (updDma ch (fun c => { c with frameCounter := 0 }) s)) : GoodState (endOfFrame ch s) := by
  refine (good_endOfFrame h ch).of_kept ?_ ?_ ?_
  · simp only [endOfFrame_eq, updDma_params]
  · simp only [endOfFrame_memory, updDma_memory]
  · simp only [endOfFrame_eq]
    cases ch <;> rfl

/-- Moving on goes past the end of the frame only to end it, and then the counter is put back. -/
theorem good_advanceChannel {s : State} (h : GoodState s) (ch : Chan) (inc : Nat) :
    GoodState (advanceChannel ch inc s) := by
  have channel := h.image.goodChannel ch
  obtain ⟨htracks, htracks'⟩ := h.image.tracksOf_bounds ch
  have hslot : ((dmaOf ch s.block).slot + 1) % (tracksOf ch s.block * 2) < 8 :=
    (Nat.mod_lt _ (by omega)).trans_le (by omega)
  rw [advanceChannel_eq]
  split
  · next hlt =>
    exact h.updBlock (h.image.mapDma (fun _ => rfl)
      { channel with slot := hslot, counter := fun _ => Nat.lt_add_right 2 hlt } rfl)
  · refine good_endOfFrame_of_counter ?_
    rw [updDma_updDma]
    exact h.updBlock (h.image.mapDma (fun _ => rfl)
      { channel with slot := hslot, counter := fun _ => Nat.succ_pos _ } rfl)

/-- The sample goes to memory, and the channel moves on. -/
theorem good_dmaRecordSink {s : State} (h : GoodState s) (v : Sample) : GoodState (dmaRecordSink v s) := by
  cases hrun : s.block.recDma.isRunning with
  | false => rwa [dmaRecordSink_of_stopped hrun]
  | true =>
    rw [dmaRecordSink_of_running hrun]
    exact good_advanceChannel (good_recordStore h v) _ _

theorem good_dacSink {s : State} (h : GoodState s) (v : Sample) (slot : Nat) : GoodState (dacSink v slot s) := by
  obtain ⟨⟨-, -, -, hcap, -⟩, -⟩ := h.params
  obtain ⟨hleft, hright⟩ := h.image.dacSize
  obtain ⟨-, hrd⟩ := h.image.dacPositions
  refine .ite _ (h.updBlock ?_) (.ite _ (h.updBlock ?_) h)
  · exact { h.image with dacSize := ⟨List.length_set.trans hleft, hright⟩ }
  · exact { h.image with
      dacSize := ⟨hleft, List.length_set.trans hright⟩, dacPositions := ⟨Nat.mod_lt _ hcap, hrd⟩ }

theorem good_dspRxSink {s : State} (h : GoodState s) (v : Sample) (frame : Bool) : GoodState (dspRxSink v frame s) :=
  .ite _ h (good_emit (good_emit (good_emit h _) _) _)

theorem good_fanOut {s : State} (h : GoodState s) (toDma toCodec toDsp : Bool) (v vdac : Sample) (slot : Nat)
    (frame : Bool) : GoodState (fanOut toDma toCodec toDsp v vdac slot frame s) := by
  have recorded : GoodState (if toDma then dmaRecordSink v s else s) := .ite _ (good_dmaRecordSink h v) h
  have heard := GoodState.ite (toCodec = true) (good_dacSink recorded vdac slot) recorded
  exact .ite _ (good_dspRxSink heard v frame) heard

theorem good_dmaPlayMove {s : State} (h : GoodState s) : GoodState (dmaPlayMove s) :=
  good_advanceChannel (good_fanOut (good_readPlaySample h _) _ _ _ _ _ _ _) _ _

theorem good_dmaPlayTick {s : State} (h : GoodState s) : GoodState (dmaPlayTick s) :=
  .ite _ h (.ite _ (good_dmaPlayMove h) (.ite _ h (good_dmaPlayMove (good_setHandshake h .play false))))

theorem good_dspXmitHandshake {s : State} (h : GoodState s) : GoodState (dspXmitHandshake s) :=
  .ite _ h (good_dmaRecordSink (good_dspReadTx (good_setHandshake h .record false)) _)

theorem good_advanceWordCount {s : State} (h : GoodState s) : GoodState (updBlock advanceWordCount s) := by
  obtain ⟨hplay, hrec, -, hrx⟩ := h.image.slots
  obtain ⟨htracks, htracks'⟩ := h.image.tracksOf_bounds .play
  rw [tracksOf_play] at htracks htracks'
  exact h.updBlock { h.image with slots := ⟨hplay, hrec, (Nat.mod_lt _ (by omega)).trans_le (by omega), hrx⟩ }

theorem good_dspXmitTick {s : State} (h : GoodState s) : GoodState (dspXmitTick s) :=
  .ite _ h (.ite _ (good_dspXmitHandshake h)
    (good_advanceWordCount (good_fanOut (good_dspReadTx (good_emit (good_emit h _) _)) _ _ _ _ _ _ _)))

theorem good_setSide {s : State} (h : GoodState s) (x : Side) :
    GoodState (updBlock (fun b => { b with adc := { b.adc with side := x } }) s) := h.updBlock { h.image with }

theorem good_adcTick {s : State} (h : GoodState s) : GoodState (adcTick s) := by
  obtain ⟨⟨-, -, -, -, hcap⟩, -⟩ := h.params
  obtain ⟨hwr, hrd⟩ := h.image.adcPositions
  have read : GoodState (updBlock (advanceAdcRead s.params.adcCap) s) := by
    refine h.updBlock ?_
    unfold advanceAdcRead
    split
    · exact h.image
    · exact { h.image with adcPositions := ⟨hwr, Nat.mod_lt _ hcap⟩ }
  exact good_setSide (good_fanOut read _ _ _ _ _ _ _) _

theorem good_subflowsOf {s : State} (h : GoodState s) (x : OscId) : GoodState (subflowsOf x s) := by
  have xmit (c : Prop) [Decidable c] := GoodState.ite c (good_dspXmitTick h) h
  have play (c : Prop) [Decidable c] {u : State} (hu : GoodState u) := GoodState.ite c (good_dmaPlayTick hu) hu
  cases x with
  | a =>
    rw [subflowsOf, fireASubflows_eq]
    exact good_adcTick (play _ (xmit _))
  | b =>
    rw [subflowsOf, fireBSubflows_eq]
    exact play _ (xmit _)

/-- A schedule keeps `consumed = floor(acc)` (42 R610). -/
theorem good_schedule {s : State} (h : GoodState s) (x : OscId) (o : Osc) (ho : o.cpt = (oscOf x s.block).cpt) :
    GoodState (updBlock (setOsc x (oscNext o)) s) := by
  obtain ⟨ha, hb⟩ := h.image.counted
  refine h.updBlock ?_
  cases x with
  | a => exact { h.image with cptA := ho.trans h.image.cptA, counted := ⟨rfl, hb⟩ }
  | b => exact { h.image with cptB := ho.trans h.image.cptB, counted := ⟨ha, rfl⟩ }

theorem good_fire {x : OscId} {e : Nat} {s t : State} (h : GoodState s)
    (hfire : fire x (subflowsOf x) e s = .ok t) : GoodState t := by
  obtain ⟨-, rfl⟩ | ⟨-, -, rfl⟩ := fire_ok (tickFrame_subflowsOf x) hfire
  · exact good_emit h _
  · have ticked := good_subflowsOf (good_emit h .acknowledge) x
    have hclock := clockState_of_tickFrame (tickFrame_subflowsOf x (emit .acknowledge s))
    exact good_emit (good_schedule ticked x _ (congrArg Osc.cpt (oscOf_of_clockState hclock x)).symm) _

/-! ### Resets and the host -/

/-- A reset leaves the reset column of 10 R129, whatever was before. -/
theorem resetState_ok {s t : State} (h : resetState s = .ok t) :
    t.params = s.params ∧ t.memory = s.memory ∧ t.block = resetBlock s.params (s.block.epoch + 1) := by
  unfold resetState at h
  cases ha : scheduleNext .a { s with block := resetBlockUnscheduled s.params (s.block.epoch + 1), hasReset := true } with
  | error e => rw [ha] at h; cases h
  | ok u =>
    rw [ha] at h
    rw [scheduleNext_ok (show scheduleNext .b u = .ok t from h), scheduleNext_ok ha]
    exact ⟨rfl, rfl, rfl⟩

theorem good_reset {s t : State} (hvalid : paramsValid s.params = true) (hmem : memWf s.memory = true)
    (h : resetState s = .ok t) : GoodState t := by
  have hparams := (paramsValid_iff_paramsOk _).1 hvalid
  obtain ⟨hp, hm, hb⟩ := resetState_ok h
  exact ⟨hp ▸ hparams, hm ▸ hmem, by rw [hp, hb]; exact goodImage_resetBlock hparams _⟩

/-- A position in a ring, by its remainder. -/
theorem drainIndex_lt {cap : Nat} (hcap : 1 ≤ cap) (rd : Nat) (pos : Binary64) : drainIndex cap rd pos < cap := by
  have hpos : (0 : Int) < cap := by exact_mod_cast hcap
  have hlow := Int.emod_nonneg ((rd : Int) + nearestIndex pos) hpos.ne'
  have hhigh := Int.emod_lt_of_pos ((rd : Int) + nearestIndex pos) hpos
  rw [drainIndex]
  omega

theorem good_drain {s : State} (h : GoodState s) (mix : List StereoPair) : GoodState (drainState mix s) := by
  obtain ⟨⟨-, -, -, hcap, -⟩, -⟩ := h.params
  obtain ⟨hwr, -⟩ := h.image.dacPositions
  exact h.of_block rfl rfl { h.image with dacPositions := ⟨hwr, drainIndex_lt hcap _ _⟩ }

/-- Feeding keeps the size of the ring and its write position in it. -/
theorem feedLoop_keeps_ring {cap : Nat} (hcap : 1 ≤ cap) (rounds : Nat) (ratio : Binary64)
    (samples : List StereoPair) (r : Ring) (pos : Binary64) (hwr : r.wr < cap) :
    let t := feedLoop rounds cap ratio samples r pos
    t.left.length = r.left.length ∧ t.right.length = r.right.length ∧ t.wr < cap := by
  induction rounds generalizing r pos with
  | zero => exact ⟨rfl, rfl, hwr⟩
  | succ n ih =>
    unfold feedLoop
    split
    · exact ⟨rfl, rfl, hwr⟩
    · obtain ⟨hleft, hright, hwr'⟩ := ih (feedPair cap _ r) (fadd pos ratio) (Nat.mod_lt _ hcap)
      exact ⟨hleft.trans List.length_set, hright.trans List.length_set, hwr'⟩

theorem good_feed {s t : State} (h : GoodState s) {l : List StereoPair} (hfeed : feedState l s = .ok t) :
    GoodState t := by
  obtain ⟨⟨-, -, -, -, hcap⟩, -⟩ := h.params
  obtain ⟨hwr, hrd⟩ := h.image.adcPositions
  obtain ⟨hleft, hright⟩ := h.image.adcSize
  unfold feedState at hfeed
  split at hfeed
  · cases hfeed
  · rw [← Except.ok.inj hfeed]
    obtain ⟨kleft, kright, kwr⟩ := feedLoop_keeps_ring hcap (feedRounds l.length (feedRatio s)) (feedRatio s) l
      s.block.adcBuf f64Zero hwr
    have krd := feedLoop_rd (feedRounds l.length (feedRatio s)) s.params.adcCap (feedRatio s) l s.block.adcBuf f64Zero
    exact h.updBlock { h.image with
      adcSize := ⟨kleft.trans hleft, kright.trans hright⟩, adcPositions := ⟨kwr, krd.trans_lt hrd⟩ }

theorem good_restore {s t : State} (h : GoodState s) {img : Block} (hr : restoreState img s = .ok t) : GoodState t := by
  unfold restoreState at hr
  split at hr
  · next himg => exact Except.ok.inj hr ▸ h.of_block rfl rfl ((imageOk_iff _ _).1 himg)
  · cases hr

/-! ### Every step -/

/-- An operation other than a reset gives a next state only where the machine is ready (70_reset_and_hazards.md R1005). -/
theorem ready_of_exec_next {i : Instr} {s t : State} (h : exec i s = .next t) (hreset : isReset i = false) :
    Ready s := by
  have ready {k : Out} (hk : whenReady s k = .next t) : Ready s := by
    obtain ⟨hp, hr, -⟩ := whenReady_next hk
    exact ⟨hp, hr⟩
  induction i using instr_byForms with
  | resetCold | resetWarm => cases hreset
  | byteWrite o d => exact ready (exec_byteWriteForm o d s ▸ h)
  | byteRead o => exact ready (exec_byteReadForm o s ▸ h)
  | _ => exact ready h

/-- An operation that is no reset keeps the invariant; the reads change the count of draws and the results alone. -/
theorem good_exec {i : Instr} {s t : State} (h : GoodState s) (hexec : exec i s = .next t) (hreset : isReset i = false) :
    GoodState t := by
  have read {u : State} {r : Result} (hframe : ∃ n, u = { s with draws := n })
      (hnext : Host.Outcome.next (giveResult r u) = (.next t : Out)) : GoodState t := by
    obtain ⟨n, rfl⟩ := hframe
    exact Host.Outcome.next.inj hnext ▸ h.of_kept rfl rfl rfl
  induction i using instr_byForms with
  | resetCold | resetWarm => cases hreset
  | byteWrite o d =>
    rw [exec_byteWriteForm] at hexec
    obtain ⟨-, -, hexec⟩ := whenReady_next hexec
    exact good_writeRow h (finish_next.1 hexec)
  | byteRead o =>
    rw [exec_byteReadForm] at hexec
    obtain ⟨-, -, hexec⟩ := whenReady_next hexec
    exact read (rowRead_frame o s) hexec
  | wwEven o d => exact good_writeBytes h (writeWord_eq o d s ▸ finish_next.1 (wideAccess_next hexec))
  | wlEven o d => exact good_writeBytes h (writeLong_eq o d s ▸ finish_next.1 (wideAccess_next hexec))
  | rwEven o => exact read (regReadWord_frame o s) (wideAccess_next hexec)
  | rlEven o => exact read (regReadLong_frame o s) (wideAccess_next hexec)
  | wwOdd o d | wlOdd o d | rwOdd o | rlOdd o => exact absurd hexec (refuseMisaligned_ne_next s t)
  | fireA e | fireB e =>
    obtain ⟨-, -, hexec⟩ := whenReady_next hexec
    exact good_fire h (finish_next.1 hexec)
  | fsoPlay | fsoRec =>
    obtain ⟨-, -, hexec⟩ := whenReady_next hexec
    exact Host.Outcome.next.inj hexec ▸ good_setHandshake h _ true
  | drain mix =>
    obtain ⟨-, -, hexec⟩ := whenReady_next hexec
    exact Host.Outcome.next.inj hexec ▸ good_drain h mix
  | mic l =>
    obtain ⟨-, -, hexec⟩ := whenReady_next hexec
    exact good_feed h (finish_next.1 hexec)
  | capture =>
    obtain ⟨-, -, hexec⟩ := whenReady_next hexec
    exact Host.Outcome.next.inj hexec ▸ h.of_kept rfl rfl rfl
  | restore img =>
    obtain ⟨-, -, hexec⟩ := whenReady_next hexec
    exact good_restore h (finish_next.1 hexec)

theorem inv_exec {i : Instr} {s t : State} (hinv : Inv s) (h : exec i s = .next t) : Inv t := by
  have reset (hr : whenValid s (finish (resetState s)) = .next t) : Inv t := by
    obtain ⟨hvalid, hr⟩ := whenValid_next hr
    exact (good_reset hvalid hinv.1 (finish_next.1 hr)).inv
  cases hreset : isReset i with
  | false => exact (good_exec (good_of_ready (ready_of_exec_next h hreset) hinv) h hreset).inv
  | true =>
    unfold isReset at hreset
    split at hreset
    · exact reset h
    · exact reset h
    · cases hreset

/-- What other agents store before an operation keeps the canonical form of memory. -/
theorem inv_arrive {s : State} (h : Inv s) (op : Operation) (rest : List Operation) : Inv (arrive op rest s) :=
  ⟨memStores_keeps_memWf _ _ h.1, h.2⟩

/-- Settles O13: a step waits, or runs one operation after the stores that come with it. -/
theorem everyStepKeepsTheInvariant : Obligations.EveryStepKeepsTheInvariant := by
  intro s t hinv h
  unfold step at h
  split at h
  · exact Host.Outcome.next.inj h ▸ hinv
  · split at h
    · cases h
    · exact inv_exec (inv_arrive hinv _ _) h

end Sys2Proof.Machine

/-! PROOFS. The claims of 60_exceptions.md: a word or long access at an odd address is refused (R903), and only fires reach
outside the block, with a pulse only for a channel that ran with its path enabled (R906). -/

namespace Sys2Proof.Machine

/-! ### Odd addresses (R903) -/

theorem isOddAddr_busAddr (base : Addr) (o : Offset) :
    isOddAddr (busAddr base o) = true ↔ (base.toNat + o.toNat) % 2 = 1 := by
  rw [isOddAddr, BitVec.getLsbD, Nat.testBit_zero, busAddr, BitVec.toNat_add, BitVec.toNat_setWidth, decide_eq_true_iff]
  omega

theorem refuseMisaligned_of_ready {s : State} (h : Ready s) : refuseMisaligned s = .refused .misaligned :=
  whenReady_of_ready h.1 h.2 _

/-- A wide access checks its address before anything else, so an odd one is misaligned at the window's end too. -/
theorem wideAccess_of_odd {o : Offset} {s : State} (h : Ready s) (ho : (s.params.regBase.toNat + o.toNat) % 2 = 1)
    (width : Nat) (k : Out) : wideAccess o width s k = .refused .misaligned :=
  (whenReady_of_ready h.1 h.2 _).trans (if_pos ((isOddAddr_busAddr _ _).2 ho))

/-- Settles O9: the odd forms refuse whatever their offset, the even forms by their check of the address. -/
theorem oddAccessesAreRefused : Obligations.OddAccessesAreRefused := by
  intro s o h
  have odd := refuseMisaligned_of_ready h
  refine ⟨fun _ => odd, fun _ => odd, odd, odd, fun ho => ?_⟩
  have even := wideAccess_of_odd h ho
  exact ⟨fun _ => even _ _, fun _ => even _ _, even _ _, even _ _⟩

/-! ### What reaches outside -/

/-- The events that reach main memory, an interrupt path or the DSP. The others are the block's own schedule and log. -/
def reachesOutside (e : Event) : Bool :=
  match e with
  | .scheduleRelative .. | .acknowledge | .logDegenerateFrame _ => false
  | .memRead _ | .memWrite .. | .pulseIrq _ | .dspReadTx | .dspWriteRx _ | .dspFrameSyncIn .. | .dspBitClock _ => true

/-- From `s` to `t` main memory and the DSP's words stay as they are, and no event added reaches outside. -/
structure StaysInside (s t : State) : Prop where
  memory : t.memory = s.memory
  dspWords : t.dspWords = s.dspWords
  events : ∃ l, t.events = s.events ++ l ∧ ∀ e ∈ l, reachesOutside e = false

theorem StaysInside.of_kept {s t : State} (hm : t.memory = s.memory) (hd : t.dspWords = s.dspWords)
    (he : t.events = s.events) : StaysInside s t := ⟨hm, hd, [], by rw [he, List.append_nil], nofun⟩

theorem StaysInside.trans {s t u : State} (h : StaysInside s t) (k : StaysInside t u) : StaysInside s u := by
  obtain ⟨l, hl, hin⟩ := h.events
  obtain ⟨m, hm, kin⟩ := k.events
  refine ⟨k.memory.trans h.memory, k.dspWords.trans h.dspWords, l ++ m, by rw [hm, hl, List.append_assoc], ?_⟩
  exact List.forall_mem_append.2 ⟨hin, kin⟩

/-- A run edge may warn of a degenerate frame, and that is all it records (43_transfer_engine.md R731). -/
theorem staysInside_runEdge (ch : Chan) (run : Bool) (s : State) : StaysInside s (runEdge ch run s) := by
  rw [runEdge_eq_edgeChannel]
  refine ⟨rfl, rfl, _, rfl, fun e he => ?_⟩
  unfold edgeEvents at he
  split at he
  · rw [List.mem_singleton.1 he, reachesOutside]
  · exact absurd he List.not_mem_nil

theorem staysInside_storeDmaControl (d : Byte) (s : State) : StaysInside s (storeDmaControl d s) := by
  have stored : StaysInside s (updRaw (fun r => { r with dmaControl := d }) s) := .of_kept rfl rfl rfl
  have decoded (u : State) : StaysInside u (updBlock (decodeDmaControl s.params.layout) u) := .of_kept rfl rfl rfl
  exact ((stored.trans (staysInside_runEdge .play _ _)).trans (staysInside_runEdge .record _ _)).trans (decoded _)

theorem staysInside_writeRow {row : Offset} {d : Byte} {s t : State} (h : writeRow row d s = .ok t) :
    StaysInside s t := by
  by_cases hlo : row = 0x0D#6
  · subst hlo
    rw [writeRow_countLo] at h
    split at h
    · exact Except.ok.inj h ▸ .of_kept rfl rfl rfl
    · cases h
  · unfold writeRow at h
    split at h
    case h_8 hn => exact absurd (BitVec.eq_of_toNat_eq hn) hlo
    all_goals obtain rfl := Except.ok.inj h
    case h_2 => exact staysInside_storeDmaControl d s
    all_goals exact .of_kept rfl rfl rfl

theorem staysInside_writeBytes {o : Offset} {l : List Byte} {s t : State} (h : writeBytes o l s = .ok t) :
    StaysInside s t := by
  induction l generalizing o s with
  | nil => exact Except.ok.inj h ▸ .of_kept rfl rfl rfl
  | cons b rest ih =>
    rw [writeBytes] at h
    cases hb : write8 o b s with
    | error e => rw [hb] at h; cases h
    | ok u =>
      rw [hb] at h
      exact (staysInside_writeRow hb).trans (ih h)

theorem staysInside_scheduleNext {x : OscId} {s t : State} (h : scheduleNext x s = .ok t) : StaysInside s t := by
  rw [scheduleNext_ok h]
  exact ⟨rfl, rfl, _, rfl, List.forall_mem_singleton.2 rfl⟩

/-- A reset records the two schedules alone (70_reset_and_hazards.md R1003). -/
theorem staysInside_resetState {s t : State} (h : resetState s = .ok t) : StaysInside s t := by
  have cleared (b : Block) : StaysInside s { s with block := b, hasReset := true } := .of_kept rfl rfl rfl
  unfold resetState at h
  cases ha : scheduleNext .a { s with block := resetBlockUnscheduled s.params (s.block.epoch + 1), hasReset := true } with
  | error e => rw [ha] at h; cases h
  | ok u =>
    rw [ha] at h
    exact ((cleared _).trans (staysInside_scheduleNext ha)).trans (staysInside_scheduleNext h)

/-- A read that gives its result changes the count of draws alone. -/
theorem StaysInside.of_read {s t u : State} {r : Result} (hframe : ∃ n, u = { s with draws := n })
    (h : Host.Outcome.next (giveResult r u) = (.next t : Out)) : StaysInside s t := by
  obtain ⟨n, rfl⟩ := hframe
  obtain rfl := Host.Outcome.next.inj h
  exact .of_kept rfl rfl rfl

/-- Every operation but a fire stays inside. -/
theorem exec_staysInside {i : Instr} {s t : State} (h : exec i s = .next t) (hfire : isFire i = false) :
    StaysInside s t := by
  induction i using instr_byForms with
  | fireA e | fireB e => cases hfire
  | byteWrite row d =>
    rw [exec_byteWriteForm] at h
    obtain ⟨-, -, h⟩ := whenReady_next h
    exact staysInside_writeRow (finish_next.1 h)
  | wwEven o d => exact staysInside_writeBytes (writeWord_eq o d s ▸ finish_next.1 (wideAccess_next h))
  | wlEven o d => exact staysInside_writeBytes (writeLong_eq o d s ▸ finish_next.1 (wideAccess_next h))
  | byteRead row =>
    rw [exec_byteReadForm] at h
    obtain ⟨-, -, h⟩ := whenReady_next h
    exact .of_read (rowRead_frame row s) h
  | rwEven o => exact .of_read (regReadWord_frame o s) (wideAccess_next h)
  | rlEven o => exact .of_read (regReadLong_frame o s) (wideAccess_next h)
  | wwOdd o d | wlOdd o d | rwOdd o | rlOdd o => exact absurd h (refuseMisaligned_ne_next s t)
  | resetCold | resetWarm => exact staysInside_resetState (finish_next.1 (whenValid_next h).2)
  | mic l =>
    obtain ⟨-, -, h⟩ := whenReady_next h
    rw [finish_next, feedState] at h
    split at h
    · cases h
    · exact Except.ok.inj h ▸ .of_kept rfl rfl rfl
  | restore img =>
    obtain ⟨-, -, h⟩ := whenReady_next h
    rw [finish_next, restoreState] at h
    split at h
    · exact Except.ok.inj h ▸ .of_kept rfl rfl rfl
    · cases h
  | fsoPlay | fsoRec | drain mix | capture =>
    obtain ⟨-, -, h⟩ := whenReady_next h
    exact Host.Outcome.next.inj h ▸ .of_kept rfl rfl rfl

/-! ### Which paths a fire may pulse (R906) -/

/-- The paths a channel may pulse: those it enables, while it runs. -/
def armedPaths (c : DmaChannel) : List IrqPath := if c.isRunning then framePulses c else []

/-- The paths either channel may pulse. -/
def armed (b : Block) : List IrqPath := armedPaths b.playDma ++ armedPaths b.recDma

theorem armedPaths_subset_armed (ch : Chan) (b : Block) : armedPaths (dmaOf ch b) ⊆ armed b := by
  cases ch
  · exact List.subset_append_left _ _
  · exact List.subset_append_right _ _

theorem armed_mapDma_subset {ch : Chan} {f : DmaChannel → DmaChannel} {b : Block}
    (h : armedPaths (f (dmaOf ch b)) ⊆ armedPaths (dmaOf ch b)) : armed (mapDma ch f b) ⊆ armed b := by
  cases ch
  · exact List.append_subset.2 ⟨List.subset_append_of_subset_left _ h, List.subset_append_right _ _⟩
  · exact List.append_subset.2 ⟨List.subset_append_left _ _, List.subset_append_of_subset_right _ h⟩

/-- From `s` to `t` only paths armed in `s` are pulsed, and no path is armed that was not. -/
structure PulsesArmed (s t : State) : Prop where
  events : ∃ l, t.events = s.events ++ l ∧ pulses l ⊆ armed s.block
  arms : armed t.block ⊆ armed s.block

theorem PulsesArmed.trans {s t u : State} (h : PulsesArmed s t) (k : PulsesArmed t u) : PulsesArmed s u := by
  obtain ⟨l, hl, hpulses⟩ := h.events
  obtain ⟨m, hm, kpulses⟩ := k.events
  refine ⟨⟨l ++ m, by rw [hm, hl, List.append_assoc], ?_⟩, List.Subset.trans k.arms h.arms⟩
  rw [pulses_append]
  exact List.append_subset.2 ⟨hpulses, List.Subset.trans kpulses h.arms⟩

theorem PulsesArmed.ite (c : Prop) [Decidable c] {s t u : State} (h : PulsesArmed s t) (k : PulsesArmed s u) :
    PulsesArmed s (if c then t else u) := by split <;> assumption

/-- A change that pulses nothing and arms the same paths. -/
theorem PulsesArmed.of_quiet {s t : State} (l : List Event) (he : t.events = s.events ++ l) (hl : pulses l = [])
    (hb : armed t.block = armed s.block) : PulsesArmed s t :=
  ⟨⟨l, he, by rw [hl]; exact List.nil_subset _⟩, by rw [hb]; exact List.Subset.refl _⟩

/-- A change of the block alone that arms the same paths. -/
theorem PulsesArmed.of_block {s t : State} (he : t.events = s.events) (hb : armed t.block = armed s.block) :
    PulsesArmed s t := .of_quiet [] (by rw [he, List.append_nil]) rfl hb

theorem PulsesArmed.refl (s : State) : PulsesArmed s s := .of_block rfl rfl

theorem pulsesArmed_memWrite (a : Addr) (v : Byte) (s : State) : PulsesArmed s (memWrite a v s) :=
  .of_quiet [.memWrite a v] rfl rfl rfl

theorem pulsesArmed_recordStore (v : Sample) (s : State) : PulsesArmed s (recordStore v s) :=
  .ite _ ((pulsesArmed_memWrite _ _ s).trans (pulsesArmed_memWrite _ _ _)) (pulsesArmed_memWrite _ _ s)

theorem pulsesArmed_memRead (a : Addr) (s : State) : PulsesArmed s (memRead a s) :=
  .of_quiet [.memRead a] (memRead_events a s) rfl (by rw [memRead_block])

theorem pulsesArmed_readPlaySample (a : Addr) (s : State) : PulsesArmed s (readPlaySample a s) :=
  .ite _ ((pulsesArmed_memRead a s).trans (pulsesArmed_memRead _ _)) (pulsesArmed_memRead a s)

theorem pulsesArmed_dspReadTx (s : State) : PulsesArmed s (dspReadTx s) :=
  .of_quiet [.dspReadTx] (by rw [dspReadTx_eq]) rfl (by rw [dspReadTx_block])

/-- A frame that is over arms its channel as before, if it loops, else no longer. -/
theorem armedPaths_frameOver_subset (start stop : Addr) (c : DmaChannel) :
    armedPaths (frameOver start stop c) ⊆ armedPaths c := by
  unfold frameOver
  split
  · exact List.Subset.refl _
  · exact List.nil_subset _

/-- The one place where a fire pulses: the end of a frame of a channel that runs, for each path it enables. -/
theorem pulsesArmed_endOfFrame {ch : Chan} {s : State} (hrun : (dmaOf ch s.block).isRunning = true) :
    PulsesArmed s (endOfFrame ch s) := by
  have hpaths : armedPaths (dmaOf ch s.block) = framePulses (dmaOf ch s.block) := if_pos hrun
  constructor
  case events =>
    rw [endOfFrame_eq]
    refine ⟨_, List.append_assoc _ _ _, ?_⟩
    rw [pulses_append, pulses_map_pulseIrq, ← hpaths]
    refine List.append_subset.2 ⟨armedPaths_subset_armed ch s.block, ?_⟩
    split <;> exact List.nil_subset _
  case arms =>
    obtain ⟨r, hb⟩ := endOfFrame_block ch s
    rw [hb]
    exact armed_mapDma_subset (armedPaths_frameOver_subset _ _ _)

theorem pulsesArmed_advanceChannel {ch : Chan} {s : State} (inc : Nat) (hrun : (dmaOf ch s.block).isRunning = true) :
    PulsesArmed s (advanceChannel ch inc s) := by
  have moved : PulsesArmed s (updDma ch (movedOn (tracksOf ch s.block) inc) s) := .of_block rfl (by cases ch <;> rfl)
  rw [advanceChannel_eq]
  exact .ite _ moved (moved.trans (pulsesArmed_endOfFrame (by rw [updDma_block, dmaOf_mapDma_same]; exact hrun)))

theorem pulsesArmed_dmaRecordSink (v : Sample) (s : State) : PulsesArmed s (dmaRecordSink v s) := by
  cases hrun : s.block.recDma.isRunning with
  | false => rw [dmaRecordSink_of_stopped hrun]; exact .refl s
  | true =>
    rw [dmaRecordSink_of_running hrun]
    exact (pulsesArmed_recordStore v s).trans (pulsesArmed_advanceChannel _ (by rwa [recordStore_block]))

theorem pulsesArmed_fanOut (toDma toCodec toDsp : Bool) (v vdac : Sample) (slot : Nat) (frame : Bool) (s : State) :
    PulsesArmed s (fanOut toDma toCodec toDsp v vdac slot frame s) := by
  have dac (u : State) : PulsesArmed u (dacSink vdac slot u) :=
    .ite _ (.of_block rfl rfl) (.ite _ (.of_block rfl rfl) (.refl u))
  have rx (u : State) : PulsesArmed u (dspRxSink v frame u) := by
    cases htri : u.block.dspRx.isTristated with
    | true => rw [dspRxSink, if_pos htri]; exact .refl u
    | false => rw [dspRxSink_eq htri]; exact .of_quiet _ rfl rfl rfl
  have toRecord := PulsesArmed.ite (toDma = true) (pulsesArmed_dmaRecordSink v s) (.refl s)
  exact (toRecord.trans (.ite (toCodec = true) (dac _) (.refl _))).trans (.ite (toDsp = true) (rx _) (.refl _))

theorem pulsesArmed_dmaPlayTick (s : State) : PulsesArmed s (dmaPlayTick s) := by
  by_cases hmoves : PlayMoves s
  · have flag : PulsesArmed s (takePlayFlag s) := .of_block rfl rfl
    have fed : PulsesArmed (takePlayFlag s) (playFed (takePlayFlag s)) :=
      (pulsesArmed_readPlaySample _ _).trans (pulsesArmed_fanOut _ _ _ _ _ _ _ _)
    rw [dmaPlayTick_of_moves hmoves, dmaPlayMove_eq]
    refine (flag.trans fed).trans (pulsesArmed_advanceChannel _ ?_)
    obtain ⟨hrun, -⟩ := hmoves
    rwa [dmaOf_play, playFed_playDma]
  · rw [dmaPlayTick_of_not_moves hmoves]
    exact .refl s

theorem pulsesArmed_dspXmitTick (s : State) : PulsesArmed s (dspXmitTick s) := by
  have flag : PulsesArmed s (takeRecordFlag s) := .of_block rfl rfl
  have handshake : PulsesArmed s (dspXmitHandshake s) :=
    .ite _ (.refl s) ((flag.trans (pulsesArmed_dspReadTx _)).trans (pulsesArmed_dmaRecordSink _ _))
  have line (e : Event) (he : pulses [e] = []) (u : State) : PulsesArmed u (emit e u) := .of_quiet [e] rfl he rfl
  have count (u : State) : PulsesArmed u (updBlock advanceWordCount u) := .of_block rfl rfl
  exact .ite _ (.refl s) (.ite _ handshake (((((line _ rfl s).trans (line _ rfl _)).trans
    (pulsesArmed_dspReadTx _)).trans (pulsesArmed_fanOut _ _ _ _ _ _ _ _)).trans (count _)))

theorem pulsesArmed_adcTick (s : State) : PulsesArmed s (adcTick s) := by
  have read : PulsesArmed s (updBlock (advanceAdcRead s.params.adcCap) s) :=
    .of_block rfl (by rw [updBlock_block, advanceAdcRead_eq]; rfl)
  have side (x : Side) (u : State) : PulsesArmed u (updBlock (fun b => { b with adc := { b.adc with side := x } }) u) :=
    .of_block rfl rfl
  exact (read.trans (pulsesArmed_fanOut _ _ _ _ _ _ _ _)).trans (side _ _)

theorem pulsesArmed_subflowsOf (x : OscId) (s : State) : PulsesArmed s (subflowsOf x s) := by
  have xmit (c : Prop) [Decidable c] := PulsesArmed.ite c (pulsesArmed_dspXmitTick s) (.refl s)
  have play (c : Prop) [Decidable c] (u : State) := PulsesArmed.ite c (pulsesArmed_dmaPlayTick u) (.refl u)
  cases x with
  | a =>
    rw [subflowsOf, fireASubflows_eq]
    exact ((xmit _).trans (play _ _)).trans (pulsesArmed_adcTick _)
  | b =>
    rw [subflowsOf, fireBSubflows_eq]
    exact (xmit _).trans (play _ _)

theorem exec_fire_pulsesArmed {i : Instr} {s t : State} (hi : isFire i = true) (h : exec i s = .next t) :
    PulsesArmed s t := by
  obtain ⟨x, e, hexec⟩ := exec_of_isFire hi
  rw [hexec] at h
  obtain ⟨-, -, h⟩ := whenReady_next h
  have ack : PulsesArmed s (emit .acknowledge s) := .of_quiet [.acknowledge] rfl rfl rfl
  obtain ⟨-, rfl⟩ | ⟨-, -, rfl⟩ := fire_ok (tickFrame_subflowsOf x) (finish_next.1 h)
  · exact ack
  · exact (ack.trans (pulsesArmed_subflowsOf x _)).trans (.of_quiet [.scheduleRelative _ _ _] rfl rfl (by cases x <;> rfl))

theorem gpio_mem_armedPaths {c : DmaChannel} :
    .gpio ∈ armedPaths c ↔ c.isRunning = true ∧ c.mfpInterrupt15 = true := by
  simp [armedPaths, framePulses]

theorem timerA_mem_armedPaths {c : DmaChannel} :
    .timerA ∈ armedPaths c ↔ c.isRunning = true ∧ c.timerAInterrupt = true := by
  simp [armedPaths, framePulses]

/-- Settles O57: a fire pulses armed paths alone, and every other operation stays inside. -/
theorem onlyFiresReachOutside : Obligations.OnlyFiresReachOutside := by
  intro s t i h
  cases hfire : isFire i with
  | true =>
    obtain ⟨⟨l, hl, hpulses⟩, -⟩ := exec_fire_pulsesArmed hfire h
    refine ⟨l, hl, nofun, fun hp => ?_, fun hp => ?_⟩
    · exact (List.mem_append.1 (hpulses hp)).imp gpio_mem_armedPaths.1 gpio_mem_armedPaths.1
    · exact (List.mem_append.1 (hpulses hp)).imp timerA_mem_armedPaths.1 timerA_mem_armedPaths.1
  | false =>
    obtain ⟨hmemory, hwords, l, hl, hin⟩ := exec_staysInside h hfire
    have out {e : Event} (he : reachesOutside e = true) : e ∉ l := fun hmem =>
      Bool.false_ne_true ((hin e hmem).symm.trans he)
    have hnone : pulses l = [] := List.filterMap_eq_nil_iff.2 fun e hmem => by
      cases e with
      | pulseIrq path => exact absurd hmem (out rfl)
      | _ => rfl
    refine ⟨l, hl, fun _ => ?_, by rw [hnone]; nofun, by rw [hnone]; nofun⟩
    exact ⟨hmemory, hwords, hnone, fun _ _ => ⟨out rfl, out rfl⟩, out rfl, fun _ _ _ => ⟨out rfl, out rfl, out rfl⟩⟩

end Sys2Proof.Machine

/-! PROOFS. The claims of 70_reset_and_hazards.md: what runs before the first reset (R1005), and what a reset leaves
(R1000, R1001, R1003). -/

namespace Sys2Proof.Machine

/-! ### What a reset can do (R1000, R1001) -/

/-- The two resets are one operation. -/
theorem exec_of_isReset {i : Instr} (hi : isReset i = true) (s : State) :
    exec i s = whenValid s (finish (resetState s)) := by
  unfold isReset at hi
  split at hi
  · rfl
  · rfl
  · cases hi

/-- The state after a reset that is not refused, its two delays as the oscillators give them. -/
def afterReset (s : State) : State :=
  let b := resetBlockUnscheduled s.params (s.block.epoch + 1)
  { s with
    block := resetBlock s.params (s.block.epoch + 1)
    hasReset := true
    events := s.events ++
      [.scheduleRelative (oscDelay b.oscA).toNat .a (s.block.epoch + 1),
       .scheduleRelative (oscDelay b.oscB).toNat .b (s.block.epoch + 1)] }

/-- A reset is refused exactly where one of its two delays is below one cycle (42_clock_scheduler.md R610). -/
theorem resetState_eq (s : State) :
    let b := resetBlockUnscheduled s.params (s.block.epoch + 1)
    resetState s = if oscDelay b.oscA < 1 ∨ oscDelay b.oscB < 1 then .error .zeroDelay else .ok (afterReset s) := by
  intro b
  have schedules : afterReset s = emit (.scheduleRelative (oscDelay b.oscB).toNat .b (s.block.epoch + 1))
      (updBlock (setOsc .b (oscNext b.oscB)) (emit (.scheduleRelative (oscDelay b.oscA).toNat .a (s.block.epoch + 1))
        (updBlock (setOsc .a (oscNext b.oscA)) { s with block := b, hasReset := true }))) := by
    rw [afterReset, List.append_cons]
    rfl
  unfold resetState
  by_cases ha : oscDelay b.oscA < 1
  · rw [if_pos (.inl ha), scheduleNext]
    exact congrArg (Except.bind · (scheduleNext .b)) (if_pos ha)
  · rw [scheduleNext]
    refine (congrArg (Except.bind · (scheduleNext .b)) (if_neg ha)).trans ?_
    by_cases hb : oscDelay b.oscB < 1
    · rw [if_pos (.inr hb)]
      exact if_pos hb
    · rw [if_neg (by simp [ha, hb]), schedules]
      exact if_neg hb

/-! ### Before the first reset (R1005) -/

theorem whenReady_of_notReset {s : State} (hp : paramsValid s.params = true) (hr : s.hasReset = false) (k : Out) :
    whenReady s k = .refused .notReset := by simp [whenReady, hp, hr]

/-- Every operation but the two resets begins with `whenReady`. -/
theorem exec_of_notReset {i : Instr} {s : State} (hp : paramsValid s.params = true) (hr : s.hasReset = false)
    (hi : isReset i = false) : exec i s = .refused .notReset := by
  induction i using instr_byForms with
  | byteWrite o d => rw [exec_byteWriteForm, whenReady_of_notReset hp hr]
  | byteRead o => rw [exec_byteReadForm, whenReady_of_notReset hp hr]
  | resetCold | resetWarm => cases hi
  | _ => exact whenReady_of_notReset hp hr _

/-- A reset that gives a next state gives `afterReset`. -/
theorem exec_reset_next {i : Instr} {s t : State} (hi : isReset i = true) (h : exec i s = .next t) : t = afterReset s := by
  rw [exec_of_isReset hi] at h
  obtain ⟨-, h⟩ := whenValid_next h
  rw [finish_next, resetState_eq] at h
  split at h
  · cases h
  · exact (Except.ok.inj h).symm

/-- Settles O8: without a reset `whenReady` refuses, and a reset that completes leaves `afterReset`. -/
theorem notResetRefusesAllButReset : Obligations.NotResetRefusesAllButReset := by
  refine ⟨fun s i hp hr hi => ?_, fun p b => ⟨rfl, rfl⟩, fun s t i hi h => ?_⟩
  · exact exec_of_notReset ((paramsValid_iff_paramsOk _).2 hp) hr hi
  · obtain rfl := exec_reset_next hi h
    exact ⟨rfl, rfl⟩

/-! ### The reset column of 10_state.md R129 -/

/-- An oscillator at a reset, before its first fire is scheduled. -/
def startOsc (p : Params) : Osc where
  cpt := resetCpt p
  acc := f64Zero
  consumed := 0

/-- At divider 0, index 0 and one track, the period of either oscillator is that of the reset column. -/
theorem cyclesPerTick_eq_resetCpt {p : Params} {b : Block} (hdiv : b.internalFrequencyDivider = 0)
    (hindex : b.steFrequencyIndex = 0) (htracks : b.playTracks = 1) (x : OscId) : cyclesPerTick p b x = resetCpt p := by
  have hone : f64 1 = f64One := by decide +kernel
  have hrate : rate p b x = p.rateLegacy[0] := by simp [rate, hdiv, hindex, legacyRate]
  rw [cyclesPerTick, hrate, htracks, hone, resetCpt]

/-- A recompute of counters at zero leaves them there, whatever `ACC_RESET_ON_RECALC` says. -/
theorem recomputeOsc_clearedOsc (p : Params) : recomputeOsc p (resetCpt p) clearedOsc = startOsc p := by
  simp [recomputeOsc, clearedOsc, startOsc]

/-- The decodes of zero selector words: every clock field is 0, a source is connected where its code is 0, and the DSP
ports are tristated in handshake mode. -/
theorem decode_zeroSelectors (l : Layout) {b : Block} (hsrc : srcWord b.raw = 0) (hdst : dstWord b.raw = 0) :
    decodeDst l (decodeSrc l b) = { b with
      dspXmitFreqSel := 0
      dmaPlayFreqSel := 0
      playDma := { b.playDma with
        connectedToCodec := l.codePlay == 0, connectedToDsp := l.codePlay == 0, connectedToDma := l.codePlay == 0
        connectedToDspHandshake := l.codePlay == 0 }
      recDma := { b.recDma with connectedToDspHandshake := l.codeDspTx == 0 }
      dspTx := { b.dspTx with
        connectedToCodec := l.codeDspTx == 0, connectedToDsp := l.codeDspTx == 0, connectedToDma := l.codeDspTx == 0
        connectedToDmaHandshake := l.codeDspTx == 0, isTristated := true, isHandshakeMode := true }
      dspRx := { b.dspRx with isTristated := true, isHandshakeMode := true }
      adc := { b.adc with
        connectedToCodec := l.codeAdc == 0, connectedToDsp := l.codeAdc == 0, connectedToDma := l.codeAdc == 0 } } := by
  have bit (i : Nat) : (0#16).getLsbD i = false := BitVec.getLsbD_zero
  have field (i : Nat) : (0#16).extractLsb' i 2 = 0#2 := BitVec.extractLsb'_zero
  have source (c : BitVec 2) : (0#2 == c) = (c == 0#2) := BEq.comm
  simp only [decodeDst, decodeSrc, decodeHandshake, hsrc, hdst, playGate, recordHandshake, srcDspTxConnect, srcDspTxClock,
    srcDspTxHandshakeOff, srcPlayOtherDest, srcPlayClock, srcPlayHandshakeOff, dstDacSource, dstDspRxConnect,
    dstDspRxSource, dstDspRxHandshakeOff, dstRecOtherSource, dstRecSource, dstRecHandshakeOff, BitVec.ofNat_eq_ofNat, bit,
    field, source, Bool.not_false, Bool.true_and]

/-- R1000 up to its `Recompute()`: the reset column, but for the two schedules. -/
theorem resetBlockUnscheduled_eq (p : Params) (epoch : Nat) :
    resetBlockUnscheduled p epoch = { resetTable p epoch with oscA := startOsc p, oscB := startOsc p } := by
  have hsrc : srcWord (clearedBlock p epoch).raw = 0 := show srcWord clearedRaw = 0 from rfl
  have hdst : dstWord (clearedBlock p epoch).raw = 0 := show dstWord clearedRaw = 0 from rfl
  rw [resetBlockUnscheduled, decode_zeroSelectors p.layout hsrc hdst, recompute, cyclesPerTick_eq_resetCpt rfl rfl rfl,
    cyclesPerTick_eq_resetCpt rfl rfl rfl, ← recomputeOsc_clearedOsc]
  rfl

/-- From a zero accumulator the first sum is the period itself. -/
theorem fadd_zero_left {x : Binary64} (hfin : f64IsFinite x = true) (hpos : 0 < f64Units x) : fadd f64Zero x = x := by
  obtain ⟨-, hlt, -⟩ := toNat_of_finite_pos hfin hpos
  obtain ⟨-, hunits⟩ := finite_of_lt_inf hlt
  have hsum := fadd_toNat (n := magnitudeOfBits x.toNat) (show f64IsFinite f64Zero = true by decide) hfin (by omega)
    (by rw [hunits]; exact zero_add _)
  exact BitVec.eq_of_toNat_eq (hsum.trans (roundMagnitude_of_bits hlt))

section
variable {p : Params} (hp : ParamsOk p) (hfin : f64IsFinite (resetCpt p) = true)
include hp hfin

/-- A finite reset period is a cycle or more (00_scope.md R12). -/
theorem one_cycle_le_resetCpt : 2 ^ 1074 ≤ f64Units (resetCpt p) := by
  have h := periodIsAtLeastOneCycle p (clearedBlock p 0) .a hp.1 le_rfl (Nat.le_of_ble_eq_true rfl)
  rw [cyclesPerTick_eq_resetCpt rfl rfl rfl] at h
  exact one_cycle_le_units hfin h

theorem fadd_startOsc : fadd (startOsc p).acc (startOsc p).cpt = resetCpt p :=
  fadd_zero_left hfin ((by positivity : (0 : Int) < 2 ^ 1074).trans_le (one_cycle_le_resetCpt hp hfin))

theorem oscDelay_startOsc : oscDelay (startOsc p) = ffloor (resetCpt p) := by
  rw [oscDelay, fadd_startOsc hp hfin]
  exact sub_zero _

theorem one_le_oscDelay_startOsc : 1 ≤ oscDelay (startOsc p) := by
  rw [oscDelay_startOsc hp hfin, ffloor_of_finite hfin]
  exact (Int.le_ediv_iff_mul_le (by positivity)).2 ((one_mul _).trans_le (one_cycle_le_resetCpt hp hfin))

/-- The block a reset leaves is the reset column. -/
theorem resetBlock_eq_resetTable (epoch : Nat) : resetBlock p epoch = resetTable p epoch := by
  rw [resetBlock, resetBlockUnscheduled_eq]
  simp only [oscNext, fadd_startOsc hp hfin]
  rfl

end

/-- With valid parameters and a finite period a reset completes. -/
theorem exec_reset {i : Instr} {s : State} (hp : ParamsOk s.params) (hfin : f64IsFinite (resetCpt s.params) = true)
    (hi : isReset i = true) : exec i s = .next (afterReset s) := by
  have hdelay := one_le_oscDelay_startOsc hp hfin
  rw [exec_of_isReset hi, whenValid_of_valid ((paramsValid_iff_paramsOk _).2 hp), resetState_eq, resetBlockUnscheduled_eq]
  exact congrArg finish (if_neg (by dsimp only; omega))

/-- Settles O10: the block is the reset column, and both first delays are the floor of the period. -/
theorem resetGivesTheResetTable : Obligations.ResetGivesTheResetTable := by
  intro s i hp hfin hi
  refine ⟨?_, rfl, rfl, rfl⟩
  rw [exec_reset hp hfin hi, afterReset, resetBlock_eq_resetTable hp hfin, resetBlockUnscheduled_eq]
  simp only [oscDelay_startOsc hp hfin]

/-- Settles O11: `State.resetWith` is what a reset leaves of a state with no event, whose epoch was 0. -/
theorem firstResetGivesTheResetState : Obligations.FirstResetGivesTheResetState :=
  fun p b hp hfin => ⟨exec_reset (s := State.powerOn p b) hp hfin rfl, rfl⟩

end Sys2Proof.Machine
